-- ==== Sys2Proof/Word.lean ====
section
/-! DEFINITION. The word types of the two links: a byte, a two-byte field and a four-byte field
(spec/11_frame_and_record_layouts.md, R180). -/

namespace Sys2Proof

/-- One byte of a trunk or field frame (R180). -/
abbrev Byte := BitVec 8

/-- A two-byte field: a Reference, a Tag, a cycle number (R180). -/
abbrev Word16 := BitVec 16

/-- A four-byte field: a limit, a Sum, a LONG value (R180). -/
abbrev Word32 := BitVec 32

end Sys2Proof
end

