-- ==== Sys2Proof/Config.lean ====
section
/-! DEFINITION. What the part fixes once and for all (the identification and the capacities of R176, the bounds of R132),
and the free values: constants without a body for what the spec leaves open. -/

namespace Sys2Proof.Config

/-- Vendor code returned by IDENTIFY (R176). -/
def vendorCode : Word16 := 0x2E71
/-- Part code returned by IDENTIFY (R176). -/
def partCode : Word16 := 0x6430
/-- Revision returned by IDENTIFY (R176). -/
def revision : Byte := 3

/-- Longest schedule, in slots (R32, R176). -/
def scheduleSlots : Nat := 64
/-- Most body bytes the uplink queue holds (R132, R176). -/
def queueBytes : Nat := 4096
/-- Most report frames the uplink queue holds (R132, R176). -/
def queueFrames : Nat := 64
/-- Most entries a report frame holds (R132). -/
def frameEntries : Nat := 32
/-- Bytes of a report frame's header (section 8.1). -/
def headerBytes : Nat := 6
/-- Occupancy from which the Half indicator stands (R140). -/
def halfBytes : Nat := 2048
/-- Longest downlink payload, in bytes (R152). -/
def payloadBytes : Nat := 64
/-- Longest field payload a reply may announce (R53). -/
def fieldPayload : Nat := 600
/-- Longest block list, in bytes (R184). -/
def blockListBytes : Nat := 512
/-- Spacings that make one calibration window (R58). -/
def windowSpacings : Nat := 256
/-- The SYNC byte of a trunk frame (section 10.1). -/
def sync : Byte := 0xA5
/-- Longest LENGTH of a trunk frame (R165). -/
def trunkLength : Nat := 513

/-- FREE VALUE (log entry 2). What NODE READ returns as LateTag while Resync is clear: the field is sent, and the spec
says only that it has meaning while Resync is set (Table 1-1, R20). Applied to State's `freeCount`. -/
opaque lateTagUnset : Nat → Word16

/-- FREE VALUE (log entry 3). Which of the frames that began to wait together while the Trunk Transmitter was IDLE is
taken first: "may be taken in either order" (R143). Applied to State's `freeCount`, and reduced to the number of them. -/
opaque firstTaken : Nat → Nat

/-- FREE VALUE (log entry 18). Whether the Stream Engine or the Report Assembler reacts first to a boundary that HALT finds
still to be taken by both: the reactions "are not ordered ... against one another" (R27). Applied to State's `freeCount`. -/
opaque streamEngineFirst : Nat → Bool

/-- FREE VALUE (log entry 22). What QUEUE READ returns as the open frame's entry count while no frame is open: the byte is
sent (Table 11-5), and the spec gives the count only for an open frame (R142). Applied to State's `freeCount`. -/
opaque openEntriesUnset : Nat → Byte

end Sys2Proof.Config
end

