-- ==== Sys2Proof/Syntax.lean ====
section
/-! DEFINITION. The commands the block takes: one constructor of `Instr` per row of spec/opcode_table.json, with the
operands the rule of the row gives it. The rows are of two sorts: events at the pins and inside the part (R24 to R166), and
the host's trunk commands (Table 10-2), whose operands are the argument fields of Table 11-5 as they arrive, after the
frame's Reference. -/

namespace Sys2Proof

/-- What began a master reset (R176). -/
inductive ResetCause where
  /-- the power-on reset -/
  | power
  /-- an assertion of RESET_N -/
  | pin
  deriving DecidableEq, Repr

/-- One spacing the field receiver measures: the whole reference periods between a transition and the one before it, and
the direction of the transition that ends it, `true` for low to high (section 3.2, R48). -/
structure Spacing where
  len : Nat
  rise : Bool
  deriving DecidableEq, Repr

/-- The nine arguments of TIMING as they arrive (Table 11-5). -/
structure TimingArgs where
  tickDivide : Word16
  cyclePeriod : Word16
  replyTimeout : Word16
  turnGap : Word16
  retryLimit : Byte
  probeInterval : Byte
  deliverLimit : Byte
  holdLimit : Byte
  fieldDivide : Byte
  deriving DecidableEq, Repr

/-- The 27-byte configuration of STREAM SET as it arrives (section 11.2). -/
structure StreamArgs where
  node : Byte
  tag : Byte
  kind : Byte
  k : Byte
  r : Word16
  output : Byte
  shift : Byte
  comparator : Byte
  kc : Byte
  rc : Byte
  high : Word32
  low : Word32
  hysteresis : Word16
  tripCount : Byte
  integrator : Byte
  n : Byte
  align : Byte
  staleLimit : Byte
  intervalInSummary : Byte
  deriving DecidableEq, Repr

/-- The commands of the block, one constructor per row of the table. A list of spacings or of bytes is what the line
carries in the step, in the order of its arrival (log entries 5 and 6). -/
inductive Instr where
  /-- MASTER_RESET (R177): power-on, or assertion of RESET_N. -/
  | masterReset (cause : ResetCause)
  /-- MASTER_RESET_END (R177): the reset ends with the straps RATE1 and RATE0 as given. -/
  | masterResetEnd (rate1 rate0 : Bool)
  /-- TICK (R24): the tick divider completes a tick. -/
  | tick
  /-- CYCLE_BOUNDARY (R27): the cycle counter has reached CyclePeriod. -/
  | cycleBoundary
  /-- STREAM_ENGINE_BOUNDARY (R124): the Stream Engine takes the oldest boundary made known to it. -/
  | streamEngineBoundary
  /-- BOUNDARY_FRAME_CLOSE (R137): the Report Assembler takes a boundary made known to it. -/
  | boundaryFrameClose
  /-- BEACON_BEGIN (R36): the waiting beacon's transmission begins. -/
  | beaconBegin
  /-- BEACON_SENT (R51): a BEACON's transmission ends. -/
  | beaconSent
  /-- SLOT_EXAMINE (R37): the scheduler examines the slot at the slot position. -/
  | slotExamine
  /-- POLL_SENT (R50): the last bit of a POLL is sent. -/
  | pollSent
  /-- START_DELIMITER (R52): the spacings that complete a start delimiter in AWAITING. -/
  | startDelimiter (spacings : List Spacing)
  /-- REPLY_TIMEOUT (R52): the reply timer expires in AWAITING. -/
  | replyTimeout
  /-- REPLY_COMPLETE (R54): the spacings up to the last CRC bit of a reply. -/
  | replyComplete (spacings : List Spacing)
  /-- RECEPTION_ABORT (R53): the spacings up to a LEN above 600 or a code violation. -/
  | receptionAbort (spacings : List Spacing)
  /-- LINE_SILENCE (R53): the spacings heard, and then no transition for 3·FieldDivide reference periods. -/
  | lineSilence (spacings : List Spacing)
  /-- TURN_GAP_END (R49): the turn-gap timer has counted its ticks. -/
  | turnGapEnd
  /-- CALIBRATION_WINDOW_COMPLETE (R59): the spacings up to the 256th of the window. -/
  | calibrationWindowComplete (spacings : List Spacing)
  /-- TRUNK_FRAME_RECEIVED (R165): the bytes, with valid stop bits, that complete a trunk frame. -/
  | trunkFrameReceived (bytes : List Byte)
  /-- TRUNK_GAP_TIMEOUT (R166): the bytes received, and then more than 32 byte-times without one. -/
  | trunkGapTimeout (bytes : List Byte)
  /-- TRANSMIT_BEGIN (R143): the idle Trunk Transmitter takes a waiting frame. -/
  | transmitBegin
  /-- TRANSMIT_END (R144): the last byte of a trunk frame is sent. -/
  | transmitEnd
  /-- IDENTIFY (R176). -/
  | identify (ref : Word16)
  /-- STATUS (R174). -/
  | status (ref : Word16) (clearSet : Word16)
  /-- ALERT MASK (R175). -/
  | alertMask (ref : Word16) (mask : Word16)
  /-- FLUSH (R178). -/
  | flush (ref : Word16)
  /-- TIMING (R41). -/
  | timing (ref : Word16) (args : TimingArgs)
  /-- RUN (R29). -/
  | run (ref : Word16)
  /-- HALT (R30). -/
  | halt (ref : Word16)
  /-- SCHEDULE LOAD (R33): the slot count and the argument bytes that follow it. -/
  | scheduleLoad (ref : Word16) (count : Byte) (slots : List Byte)
  /-- SCHEDULE READ (R35). -/
  | scheduleRead (ref : Word16) (selector : Byte)
  /-- LINE READ (R62). -/
  | lineRead (ref : Word16)
  /-- NODE SET (R17). -/
  | nodeSet (ref : Word16) (node address : Byte)
  /-- NODE DELETE (R19). -/
  | nodeDelete (ref : Word16) (node : Byte)
  /-- NODE READ (R20). -/
  | nodeRead (ref : Word16) (node clear : Byte)
  /-- STREAM SET (R70). -/
  | streamSet (ref : Word16) (stream : Byte) (args : StreamArgs)
  /-- STREAM ENABLE (R71). -/
  | streamEnable (ref : Word16) (stream : Byte)
  /-- STREAM DISABLE (R72). -/
  | streamDisable (ref : Word16) (stream : Byte)
  /-- STREAM DELETE (R73). -/
  | streamDelete (ref : Word16) (stream : Byte)
  /-- STREAM READ (R74). -/
  | streamRead (ref : Word16) (stream : Byte)
  /-- QUEUE MARKS (R141). -/
  | queueMarks (ref : Word16) (high low : Word16)
  /-- QUEUE READ (R142). -/
  | queueRead (ref : Word16) (clear : Byte)
  /-- FORWARD (R152). -/
  | forward (ref : Word16) (node : Byte) (tag : Word16) (payload : List Byte)
  /-- CANCEL (R153). -/
  | cancel (ref : Word16) (node : Byte)
  /-- TRUNK_BYTE_ERROR (R166): the bytes received, and then a byte without a valid stop bit. -/
  | trunkByteError (bytes : List Byte)
  /-- LENGTH_OUT_OF_RANGE (R165): the two LENGTH bytes after a SYNC, as one value. -/
  | lengthOutOfRange (length : Word16)
  deriving DecidableEq, Repr

end Sys2Proof
end

