-- ==== Sys2Proof/Decode.lean ====
section
/-! DEFINITION. Decoding by the table's bits. The block has no instruction words: no row of spec/opcode_table.json gives
bits ("fields": [], no "fixed"). The layouts of the host's command frames (Tables 11-1, 11-2 and 11-5) are read by the Trunk
Receiver and the Command Unit, in Sys2Proof/Machine/Receiver.lean. -/

namespace Sys2Proof

/-- No row of the table gives bits, so no word spells a command by the table. -/
def decodeTableWord (_nbits _w : Nat) : Option Instr := none

end Sys2Proof
end

