-- ==== Sys2Proof/WellFormed.lean ====
section
/-! DEFINITION. Which commands can come from the two lines at all. The machine is total and gives a meaning to the others
too; a well-formed command is one the lines can carry. -/

namespace Sys2Proof

/-- Successive transitions of a two-level line have opposite directions (R47). -/
def alternating : List Spacing → Bool
  | a :: b :: rest => (a.rise != b.rise) && alternating (b :: rest)
  | _ => true

/-- A measured series of spacings: each at least 1 reference period (section 3.2), directions alternating. -/
def wfSpacings (sps : List Spacing) : Bool :=
  sps.all (fun sp => 1 ≤ sp.len) && alternating sps

/-- Most argument bytes one COMMAND frame carries: LENGTH is at most 513 and counts TYPE, the opcode and the Reference
(R165, Table 11-2). -/
def maxArguments : Nat := Config.trunkLength - 4

/-- A LENGTH that shows its SYNC was no frame start (R165). -/
def lengthBad (length : Word16) : Bool :=
  length.toNat == 0 || Config.trunkLength < length.toNat

/-- The commands the two lines can carry: measured spacings, an out-of-range LENGTH where the row is about one, and
arguments of variable length that fit one frame. -/
def Instr.wf : Instr → Bool
  | .masterReset _ | .masterResetEnd _ _ | .tick | .cycleBoundary | .streamEngineBoundary | .boundaryFrameClose => true
  | .beaconBegin | .beaconSent | .slotExamine | .pollSent | .replyTimeout | .turnGapEnd => true
  | .startDelimiter sps | .replyComplete sps | .receptionAbort sps | .lineSilence sps
  | .calibrationWindowComplete sps => wfSpacings sps
  | .trunkFrameReceived _ | .trunkGapTimeout _ | .trunkByteError _ | .transmitBegin | .transmitEnd => true
  | .identify _ | .status _ _ | .alertMask _ _ | .flush _ | .timing _ _ | .run _ | .halt _ => true
  | .scheduleLoad _ _ slots => 1 + slots.length ≤ maxArguments
  | .scheduleRead _ _ | .lineRead _ | .nodeSet _ _ _ | .nodeDelete _ _ | .nodeRead _ _ _ => true
  | .streamSet _ _ _ | .streamEnable _ _ | .streamDisable _ _ | .streamDelete _ _ | .streamRead _ _ => true
  | .queueMarks _ _ _ | .queueRead _ _ | .cancel _ _ => true
  | .forward _ _ _ payload => 3 + payload.length ≤ maxArguments
  | .lengthOutOfRange length => lengthBad length

end Sys2Proof
end

