-- ==== Sys2Proof/Machine/State.lean ====
section
/-! DEFINITION. The state of the ES-6430 as plain data, block by block in the order of Table I-1, and its value after master
reset (Table 10-4). Outputs that the spec defines from other state (occupancy, the Half indicator, the nominal threshold,
the binding map) are computed in Sys2Proof/Machine/Ops.lean and not stored twice. -/

namespace Sys2Proof.Machine

/-! ## Node table (R1, Table 1-1) -/

/-- Liveness of a node (R3). -/
inductive NodeState where
  | unknown
  | up
  | suspect
  | down
  deriving DecidableEq, Repr

/-- A downlink payload in its slot (R151). -/
structure DownPayload where
  tag : Word16
  payload : List Byte
  attempts : Nat
  lastAnswered : Bool
  deriving DecidableEq, Repr

/-- The seven 16-bit saturating counters of a node entry (Table 1-1). -/
structure NodeCounters where
  polls : Word16
  accepted : Word16
  duplicates : Word16
  timeouts : Word16
  spoiled : Word16
  holds : Word16
  protocolErrors : Word16
  deriving DecidableEq, Repr

/-- The fields of an IN USE node entry (Table 1-1). `resync` is the Resync mark together with LateTag, which has meaning
only while the mark is set: `some tag` is Resync set with LateTag `tag`. -/
structure NodeEntry where
  address : Byte
  state : NodeState
  expectRx : Bool
  sendTx : Bool
  retryCount : Nat
  holdCount : Nat
  held : Bool
  resync : Option Word16
  probeCountdown : Nat
  slot : Option DownPayload
  counters : NodeCounters
  deriving DecidableEq, Repr

/-! ## Cycle Timer (R24 to R26, Table 2-3) -/

/-- Engine states (Table 2-1). -/
inductive EngineState where
  | halted
  | running
  | stopping
  deriving DecidableEq, Repr

/-- The nine timing parameters (Table 2-3). -/
structure Timing where
  tickDivide : Nat
  cyclePeriod : Nat
  replyTimeout : Nat
  turnGap : Nat
  retryLimit : Nat
  probeInterval : Nat
  deliverLimit : Nat
  holdLimit : Nat
  fieldDivide : Nat
  deriving DecidableEq, Repr

/-- The Cycle Timer. `divider` counts the reference periods of the tick in progress. -/
structure CycleTimer where
  timing : Timing
  divider : Nat
  engine : EngineState
  cycleCounter : Nat
  cycleNumber : Word16
  deriving DecidableEq, Repr

/-! ## Poll Scheduler (R32 to R40) -/

/-- The Poll Scheduler. `beacon` is the waiting beacon with the cycle number it carries. -/
structure Scheduler where
  active : List (Fin 32)
  pending : Option (List (Fin 32))
  position : Nat
  beacon : Option Word16
  overrunCount : Word16
  deriving DecidableEq, Repr

/-- Boundaries made known to other blocks and not yet taken by them (R27, R124, R137): for the Stream Engine the number of
the cycle that each ends, oldest first, and for the Report Assembler how many. -/
structure BoundaryNotices where
  streamEngine : List Word16
  assembler : Nat
  deriving DecidableEq, Repr

/-! ## Field Port (R47 to R56) -/

/-- The reply being decoded (R53): whether the receiver stands at a bit's middle, the decoded bits of the byte in
progress, and the bytes complete so far, both oldest first. -/
structure Reception where
  atMiddle : Bool
  bits : List Bool
  bytes : List Byte
  deriving DecidableEq, Repr

/-- A frame the part drives on the field line: a BEACON or a POLL, with its bytes ADDR through CRC (R47). -/
structure FieldFrame where
  beacon : Bool
  bytes : List Byte
  deriving DecidableEq, Repr

/-- Exchange states (Table 3-1). AWAITING counts the consecutive violation-class spacings of a start delimiter (R48). -/
inductive PortState where
  | idle
  | sending (frame : FieldFrame)
  | awaiting (violations : Nat)
  | receiving (rx : Reception)
  deriving DecidableEq, Repr

/-- The exchange in flight (R4): the node index it was formed for, the G value of its POLL, whether the POLL carried the
payload, and whether it is a probe poll (R38). -/
structure Exchange where
  node : Fin 32
  g : Bool
  carried : Bool
  probe : Bool
  deriving DecidableEq, Repr

/-- The Field Port. A timer is `some n` while it runs, with `n` ticks left to count; `some 0` has counted them all and its
expiry has not yet been taken. `fldDe` is the output FLD_DE, `true` when asserted. -/
structure FieldPort where
  state : PortState
  exchange : Option Exchange
  replyTimer : Option Nat
  turnGap : Option Nat
  fldDe : Bool
  deriving DecidableEq, Repr

/-! ## Line Calibrator (Table 3-2) -/

/-- Line states (R57). -/
inductive LineState where
  | seeking
  | locked
  deriving DecidableEq, Repr

/-- The Line Calibrator. Bit b of `bins` and `lastBins` is the occupancy of bin b, 1..63. -/
structure Calibrator where
  line : LineState
  nextThreshold : Nat
  thresholdInUse : Nat
  bins : BitVec 64
  longCount : Nat
  spacingCount : Nat
  lastBins : BitVec 64
  lastLong : Nat
  lastFail : Bool
  consecutiveFails : Nat
  fails : Word16
  deriving DecidableEq, Repr

/-! ## Stream contexts (Tables 4-1 and 4-2) -/

/-- Kind of a stream and of a channel block (R64). -/
inductive Kind where
  | bits
  | words
  deriving DecidableEq, Repr

/-- Sample output (R64): OFF, SHORT with its Shift, LONG. -/
inductive SampleOutput where
  | off
  | short (shift : Nat)
  | long
  deriving DecidableEq, Repr

/-- The six values of a comparator that is on (Table 6-1). -/
structure ComparatorConfig where
  kc : Nat
  rc : Nat
  high : Int
  low : Int
  hysteresis : Nat
  tripCount : Nat
  deriving DecidableEq, Repr

/-- Integrator mode (R117): OFF, COUNT with N and Align, CYCLE. -/
inductive IntegratorMode where
  | off
  | count (n : Nat) (align : Bool)
  | cycle
  deriving DecidableEq, Repr

/-- The configuration of a stream (Table 4-1). Fields of a part switched OFF are not there; they read as 0 (R64). -/
structure StreamConfig where
  node : Fin 32
  tag : Fin 8
  kind : Kind
  k : Nat
  r : Nat
  output : SampleOutput
  comparator : Option ComparatorConfig
  integrator : IntegratorMode
  staleLimit : Nat
  intervalInSummary : Bool
  deriving DecidableEq, Repr

/-- History and phase of a decimation or comparator filter (R87, R89, R104), the history newest first. -/
structure FilterState where
  history : List Int
  phase : Nat
  deriving DecidableEq, Repr

/-- ComparatorState (chapter 6). -/
inductive ComparatorState where
  | inside
  | above
  | below
  deriving DecidableEq, Repr

/-- The direction of a trip or of a count (chapter 6). -/
inductive Direction where
  | high
  | low
  deriving DecidableEq, Repr

/-- The running state of a stream (Table 4-2). `beyondDir` is BeyondDirection, `none` for NONE. -/
structure StreamRun where
  filter : FilterState
  countdown : Nat
  seq : Byte
  cmpFilter : FilterState
  cmpState : ComparatorState
  beyondCount : Nat
  beyondDir : Option Direction
  sum : Int
  sumCount : Word16
  windowCount : Word16
  overflow : Bool
  waiting : Bool
  elapsed : Word16
  elapsedOver : Bool
  hasStamp : Bool
  lastInterval : Word16
  intervalOverflow : Bool
  cyclesSince : Nat
  stale : Bool
  blocks : Word16
  kindMismatch : Word16
  outputs : Word16
  deriving DecidableEq, Repr

/-- States of a stream that is not UNUSED (R63). -/
inductive StreamState where
  | idle
  | active
  | suspended
  deriving DecidableEq, Repr

/-- A stream context that is not UNUSED (R63 to R65). -/
structure StreamCtx where
  state : StreamState
  config : StreamConfig
  run : StreamRun
  deriving DecidableEq, Repr

/-! ## Report entries and the uplink queue (chapter 8, R185) -/

/-- Causes of a RELEASE (Table 6-4). -/
inductive ReleaseCause where
  | level
  | suspend
  | disable
  | restart
  deriving DecidableEq, Repr

/-- Reasons of a NODE entry with state UP (Table 1-4); a NODE entry with state DOWN has reason LIMIT. -/
inductive UpReason where
  | first
  | recovered
  | restart
  deriving DecidableEq, Repr

/-- Outcomes of a payload (Table 9-2). -/
inductive DeliveryOutcome where
  | delivered
  | expired
  | refused
  | nodeDown
  | cancelled
  | late
  deriving DecidableEq, Repr

/-- Report entries, with the fields of R95, R125, R113, R81, R16 and R161. A SAMPLE's `long` is its Form. -/
inductive Entry where
  | sample (stream : Fin 64) (seq : Byte) (unsettled saturated long : Bool) (value : Int)
  | summary (stream : Fin 64) (cycleMode overflow : Bool) (sum : Int) (sumCount closing interval : Word16)
  | trip (stream : Fin 64) (dir : Direction) (value : Int)
  | release (stream : Fin 64) (dir : Direction) (cause : ReleaseCause) (value : Int)
  | stale (stream : Fin 64) (elapsed : Word16)
  | nodeUp (node : Fin 32) (reason : UpReason)
  | nodeDown (node : Fin 32)
  | delivery (node : Fin 32) (tag : Word16) (outcome : DeliveryOutcome) (attempts : Nat)
  deriving DecidableEq, Repr

/-- Close flags of a report frame (Table 8-3). -/
structure CloseFlags where
  full : Bool
  urgent : Bool
  boundary : Bool
  halt : Bool
  deriving DecidableEq, Repr

/-- A report frame: its header's cycle number, close flags and DroppedBefore, and its entries in the order of their
addition (section 8.1). The entry count is the length of the list. -/
structure ReportFrame where
  cycle : Word16
  flags : CloseFlags
  droppedBefore : Word16
  entries : List Entry
  deriving DecidableEq, Repr

/-- The six loss counters (Table 8-2). -/
structure LossCounters where
  sample : Word16
  summary : Word16
  comparator : Word16
  stale : Word16
  node : Word16
  delivery : Word16
  deriving DecidableEq, Repr

/-- The Report Assembler and Uplink Queue (R132): the closed frames oldest first, and the open frame, which is last. -/
structure UplinkQueue where
  closed : List ReportFrame
  openFrame : Option ReportFrame
  droppedSinceOpen : Word16
  lost : LossCounters
  highMark : Nat
  lowMark : Nat
  throttled : Bool
  deriving DecidableEq, Repr

/-! ## Trunk Transmitter, Trunk Receiver, Command Unit (chapters 8 and 10) -/

/-- The places the Trunk Transmitter takes a frame from (R143). -/
inductive TxSource where
  | reply
  | alert
  | report
  deriving DecidableEq, Repr

/-- The frame being sent on TRX_TXD: where it came from, and its bytes SYNC through CRC (R144). -/
structure Transmission where
  source : TxSource
  bytes : List Byte
  deriving DecidableEq, Repr

/-- Trunk Receiver states with what each has stored (Table 10-1). -/
inductive ReceiverState where
  | hunt
  | length (got : List Byte)
  | content (length : Word16) (got : List Byte)
  | check (length : Word16) (content crc : List Byte)
  deriving DecidableEq, Repr

/-- Reply statuses (Table I-3). -/
inductive Status where
  | ok
  | busy
  | state
  | range
  | noent
  | conflict
  | format
  deriving DecidableEq, Repr

/-- A REPLY frame: opcode, Reference, status and the result bytes (Table 11-2). -/
structure Reply where
  opcode : Byte
  ref : Word16
  status : Status
  results : List Byte
  deriving DecidableEq, Repr

/-! ## Status and Alert Unit (section 10.3) -/

/-- The ten sticky flags (Table I-4). -/
inductive Flag where
  | trip
  | stale
  | node
  | proto
  | overrun
  | loss
  | line
  | trunk
  | delivery
  | saturate
  deriving DecidableEq, Repr

/-- An ALERT frame: the flags, the mask and the cycle number at its making (R172). -/
structure AlertFrame where
  flags : BitVec 10
  mask : BitVec 10
  cycle : Word16
  deriving DecidableEq, Repr

/-- The Status and Alert Unit. Flags and mask hold the ten bits of Table 11-3; `alertN` is the output ALERT_N, `true` when
asserted. -/
structure StatusUnit where
  flags : BitVec 10
  mask : BitVec 10
  armed : Bool
  alertSlot : Option AlertFrame
  alertN : Bool
  resetCause : ResetCause
  flushCount : Word16
  deriving DecidableEq, Repr

/-! ## The machine -/

/-- The whole part. `holding` is `some cause` while master reset holds the part (R177); `rate1` and `rate0` are the straps
as sampled. A node entry or a stream is `none` when FREE or UNUSED (R1, R63). The last three fields are the model's own:
`tied` (the frames that began to wait together, R143), `freeCount` (how many free values have been drawn) and the queue of
commands that wait. -/
structure State where
  holding : Option ResetCause
  rate1 : Bool
  rate0 : Bool
  timer : CycleTimer
  sched : Scheduler
  notices : BoundaryNotices
  port : FieldPort
  cal : Calibrator
  nodes : Vector (Option NodeEntry) 32
  unclaimed : Vector Word16 32
  streams : Vector (Option StreamCtx) 64
  queue : UplinkQueue
  transmission : Option Transmission
  receiver : ReceiverState
  badFrames : Word16
  replySlot : Option Reply
  droppedCommands : Word16
  status : StatusUnit
  tied : List TxSource
  freeCount : Nat
  pending : List Instr
  deriving DecidableEq, Repr

/-- The part never stops with a fault: the spec gives every command an effect or none in every state. No constructor. -/
inductive Fault where
  deriving DecidableEq, Repr

/-- Refusals. -/
inductive Refusal where
  /-- A command that has no meaning yet, by its mnemonic. Raised by `exec`'s arms only; safe. No arm raises it. -/
  | notModelled (mnemonic : String)
  deriving DecidableEq, Repr

/-! ## Master reset values (Table 10-4) -/

/-- The default timing parameters (Table 2-3). -/
def Timing.default : Timing where
  tickDivide := 16
  cyclePeriod := 10000
  replyTimeout := 400
  turnGap := 20
  retryLimit := 3
  probeInterval := 10
  deliverLimit := 4
  holdLimit := 8
  fieldDivide := 16

/-- All loss counters 0 (R145). -/
def LossCounters.zero : LossCounters := ⟨0, 0, 0, 0, 0, 0⟩

/-- The part right after a master reset of the given cause with the straps as given (Table 10-4, R177). -/
def State.masterReset (cause : ResetCause) (rate1 rate0 : Bool) : State where
  holding := none
  rate1 := rate1
  rate0 := rate0
  timer := { timing := Timing.default, divider := 0, engine := .halted, cycleCounter := 0, cycleNumber := 0 }
  sched := { active := [], pending := none, position := 0, beacon := none, overrunCount := 0 }
  notices := { streamEngine := [], assembler := 0 }
  port := { state := .idle, exchange := none, replyTimer := none, turnGap := none, fldDe := false }
  cal := { line := .seeking, nextThreshold := 12, thresholdInUse := 12, bins := 0, longCount := 0, spacingCount := 0,
           lastBins := 0, lastLong := 0, lastFail := false, consecutiveFails := 0, fails := 0 }
  nodes := Vector.replicate 32 none
  unclaimed := Vector.replicate 32 0
  streams := Vector.replicate 64 none
  queue := { closed := [], openFrame := none, droppedSinceOpen := 0, lost := LossCounters.zero, highMark := 3072,
             lowMark := 1024, throttled := false }
  transmission := none
  receiver := .hunt
  badFrames := 0
  replySlot := none
  droppedCommands := 0
  status := { flags := 0, mask := 0, armed := true, alertSlot := none, alertN := false, resetCause := cause,
              flushCount := 0 }
  tied := []
  freeCount := 0
  pending := []

/-- The part right after the power-on reset, with both straps low (the straps: log entry 1, DESIGN CHOICE). -/
def State.reset : State := State.masterReset .power false false

end Sys2Proof.Machine
end

