-- ==== Sys2Proof/Machine/Operands.lean ====
section
/-! DEFINITION. Every form a value takes on the two links (chapter 11): byte order, signed values, codes, the CRC, the trunk
and field frames, the layouts of arguments, results and entries, and the reading of a channel block list. -/

namespace Sys2Proof.Machine

/-! ## Multi-byte fields (R180) -/

/-- Two bytes, most significant first (R180). -/
def be16 (w : Word16) : List Byte := [w.extractLsb' 8 8, w.extractLsb' 0 8]

/-- Four bytes, most significant first (R180). -/
def be32 (w : Word32) : List Byte := be16 (w.extractLsb' 16 16) ++ be16 (w.extractLsb' 0 16)

/-- The two-byte field whose bytes are `hi`, then `lo` (R180). -/
def word16 (hi lo : Byte) : Word16 := (hi ++ lo : BitVec 16)

/-- The four-byte field whose bytes are `a`, `b`, `c`, `d` in that order (R180). -/
def word32 (a b c d : Byte) : Word32 := (word16 a b ++ word16 c d : BitVec 32)

/-- A number in one byte. -/
def nat8 (n : Nat) : Byte := BitVec.ofNat 8 n

/-- A number in two bytes. -/
def nat16 (n : Nat) : List Byte := be16 (BitVec.ofNat 16 n)

/-- A signed number in two bytes, two's complement (R180). -/
def int16 (v : Int) : List Byte := be16 (BitVec.ofInt 16 v)

/-- A signed number in four bytes, two's complement (R180). -/
def int32 (v : Int) : List Byte := be32 (BitVec.ofInt 32 v)

/-- A yes/no field or a mark of one byte: 1 for yes or set, 0 for no or clear (R183). -/
def mark (b : Bool) : Byte := if b then 1 else 0

/-- A byte gathered from marks, bit 0 first. The bits that no mark names are sent as zero: for the close flags the spec calls
them reserved (Table 11-9, R182), and for the bytes of marks in results the model deduces it (log entry 23, DEDUCED). -/
def markByte (marks : List Bool) : Byte := nat8 (marks.foldr (fun b n => b.toNat + 2 * n) 0)

/-- The eight bits of a byte, most significant first (R180). -/
def byteBits (b : Byte) : List Bool := (List.range 8).map b.getMsbD

/-- The byte whose bits are given most significant first (R180). -/
def byteOfBits (bits : List Bool) : Byte := nat8 (bits.foldl (fun n b => 2 * n + b.toNat) 0)

/-- The parts of a character on the trunk link: its start bit, its eight data bits, its stop bit (R180). The order of the
data bits on the wire is not stated, so they stand together as their byte (log entry 19). -/
inductive TrunkUnit where
  | start
  | data (b : Byte)
  | stop
  deriving DecidableEq, Repr

/-- The bit periods a part of a character takes: ten for a whole one (Conventions, Time). -/
def TrunkUnit.periods : TrunkUnit → Nat
  | .start | .stop => 1
  | .data _ => 8

/-- A byte on the trunk link, framed by one start bit and one stop bit (R180). -/
def trunkCharacter (b : Byte) : List TrunkUnit := [.start, .data b, .stop]

/-! ## Saturating counters -/

/-- A 16-bit saturating counter incremented: it stays at 65535 (Conventions, Counters). -/
def bump (c : Word16) : Word16 := if c = 0xFFFF then c else c + 1

/-- A 16-bit saturating counter increased by `n` (R40). -/
def bumpBy (c : Word16) (n : Nat) : Word16 := BitVec.ofNat 16 (min 65535 (c.toNat + n))

/-- A counter that saturates at `top`, incremented. -/
def bumpTo (top n : Nat) : Nat := if n < top then n + 1 else n

/-! ## CRC (R181) -/

/-- One bit taken into the CRC register, generator 0x1021. -/
def crcBit (reg : Word16) (b : Bool) : Word16 :=
  if reg.msb != b then (reg <<< 1) ^^^ 0x1021 else reg <<< 1

/-- The CRC of the covered bytes: preset 0xFFFF, each byte most significant bit first, no final inversion (R181). -/
def crc16 (bytes : List Byte) : Word16 :=
  bytes.foldl (fun reg b => (byteBits b).foldl crcBit reg) 0xFFFF

/-! ## Codes (Tables 11-2 to 11-4, 11-10) -/

/-- Status codes (R183). -/
def Status.code : Status → Byte
  | .ok => 0
  | .busy => 1
  | .state => 2
  | .range => 3
  | .noent => 4
  | .conflict => 5
  | .format => 6

/-- Engine state codes (Table 11-4). -/
def EngineState.code : EngineState → Byte
  | .halted => 0
  | .running => 1
  | .stopping => 2

/-- Node State codes (Table 11-4). -/
def NodeState.code : NodeState → Byte
  | .unknown => 0
  | .up => 1
  | .suspect => 2
  | .down => 3

/-- Stream state codes (Table 11-4); UNUSED is 0. -/
def StreamState.code : StreamState → Byte
  | .idle => 1
  | .active => 2
  | .suspended => 3

/-- Kind codes (Table 11-4). -/
def Kind.code : Kind → Byte
  | .bits => 0
  | .words => 1

/-- ComparatorState codes (Table 11-4). -/
def ComparatorState.code : ComparatorState → Byte
  | .inside => 0
  | .above => 1
  | .below => 2

/-- BeyondDirection codes (Table 11-4). -/
def beyondCode : Option Direction → Byte
  | none => 0
  | some .high => 1
  | some .low => 2

/-- LineState codes (Table 11-4). -/
def LineState.code : LineState → Byte
  | .seeking => 0
  | .locked => 1

/-- Exchange state codes (Table 11-4). -/
def PortState.code : PortState → Byte
  | .idle => 0
  | .sending _ => 1
  | .awaiting _ => 2
  | .receiving _ => 3

/-- ResetCause codes (Table 11-4). -/
def resetCauseCode : ResetCause → Byte
  | .power => 1
  | .pin => 2

/-- Direction mark of TRIP and RELEASE (Table 11-10). -/
def Direction.isLow : Direction → Bool
  | .high => false
  | .low => true

/-- Cause codes of RELEASE (Table 11-10). -/
def ReleaseCause.code : ReleaseCause → Byte
  | .level => 0
  | .suspend => 1
  | .disable => 2
  | .restart => 3

/-- Reason codes of NODE with state UP (Table 11-10); LIMIT is 3. -/
def UpReason.code : UpReason → Byte
  | .first => 0
  | .recovered => 1
  | .restart => 2

/-- Outcome codes of DELIVERY (Table 11-10). -/
def DeliveryOutcome.code : DeliveryOutcome → Byte
  | .delivered => 0
  | .expired => 1
  | .refused => 2
  | .nodeDown => 3
  | .cancelled => 4
  | .late => 5

/-- A flag set in two bytes, its reserved bits 10..15 zero (Table 11-3, R182). -/
def flagBytes (f : BitVec 10) : List Byte := be16 (f.setWidth 16)

/-- The ten defined flags of a received flag set; its reserved bits are ignored (R182). -/
def flagSet (w : Word16) : BitVec 10 := w.setWidth 10

/-! ## Entries (Table 11-10) -/

/-- An entry's first two bytes: the kind code over its marks, and the stream number or node index (R185). -/
def entryHead (kind marks index : Nat) : List Byte := [nat8 (16 * kind + marks), nat8 index]

/-- The bytes of an entry (Table 11-10). -/
def Entry.bytes : Entry → List Byte
  | .sample s seq u c long v =>
    entryHead 1 (8 * long.toNat + 2 * u.toNat + c.toNat) s ++ [seq, 0] ++ (if long then int32 v else int16 v)
  | .summary s cyc o sum cnt closing interval =>
    entryHead 2 (8 * cyc.toNat + o.toNat) s ++ [0, 0] ++ int32 sum ++ be16 cnt ++ be16 closing ++ be16 interval
  | .trip s d v => entryHead 3 d.isLow.toNat s ++ [0, 0] ++ int32 v
  | .release s d cause v => entryHead 4 d.isLow.toNat s ++ [cause.code, 0] ++ int32 v
  | .stale s elapsed => entryHead 5 0 s ++ be16 elapsed
  | .nodeUp n reason => entryHead 6 0 n ++ [reason.code, 0]
  | .nodeDown n => entryHead 6 1 n ++ [3, 0]
  | .delivery n tag outcome attempts => entryHead 7 0 n ++ be16 tag ++ [outcome.code, nat8 attempts]

/-- The bytes an entry takes in a report frame (Table 8-1). -/
def Entry.size : Entry → Nat
  | .sample _ _ _ _ long _ => if long then 8 else 6
  | .summary _ _ _ _ _ _ _ => 14
  | .trip _ _ _ | .release _ _ _ _ => 8
  | .stale _ _ | .nodeUp _ _ | .nodeDown _ => 4
  | .delivery _ _ _ _ => 6

/-- The urgent entries: TRIP, and NODE with state DOWN (R136). -/
def Entry.urgent : Entry → Bool
  | .trip _ _ _ | .nodeDown _ => true
  | .sample _ _ _ _ _ _ | .summary _ _ _ _ _ _ _ | .release _ _ _ _ | .stale _ _ | .nodeUp _ _
  | .delivery _ _ _ _ => false

/-- The body length of a frame: its header and its entries (section 8.1). -/
def ReportFrame.size (f : ReportFrame) : Nat := Config.headerBytes + (f.entries.map Entry.size).sum

/-- The body of a report frame: the header of Table 11-9, then its entries (R185). -/
def ReportFrame.body (f : ReportFrame) : List Byte :=
  be16 f.cycle ++ [nat8 f.entries.length, markByte [f.flags.full, f.flags.urgent, f.flags.boundary, f.flags.halt]]
    ++ be16 f.droppedBefore ++ f.entries.flatMap Entry.bytes

/-- The body of a REPLY (Table 11-2). -/
def Reply.body (r : Reply) : List Byte := r.opcode :: be16 r.ref ++ r.status.code :: r.results

/-- The body of an ALERT (Table 11-11). -/
def AlertFrame.body (a : AlertFrame) : List Byte := flagBytes a.flags ++ flagBytes a.mask ++ be16 a.cycle

/-- A trunk frame: SYNC, LENGTH, TYPE, the body, and the CRC over LENGTH through the last body byte (Table 11-1, R181). -/
def trunkFrame (type : Byte) (body : List Byte) : List Byte :=
  let covered := nat16 (1 + body.length) ++ type :: body
  Config.sync :: covered ++ be16 (crc16 covered)

/-- TYPE of a COMMAND frame (Table 11-1). -/
def typeCommand : Byte := 0x01
/-- TYPE of a REPLY frame (Table 11-1). -/
def typeReply : Byte := 0x81
/-- TYPE of a REPORT frame (Table 11-1). -/
def typeReport : Byte := 0x82
/-- TYPE of an ALERT frame (Table 11-1). -/
def typeAlert : Byte := 0x83

/-! ## Field frames (Tables 11-6 and 11-7) -/

/-- A field frame's bytes: ADDR, CTRL, LEN, payload and the CRC over all of them (R47, R181). -/
def fieldFrame (addr ctrl : Byte) (payload : List Byte) : List Byte :=
  let covered := addr :: ctrl :: nat16 payload.length ++ payload
  covered ++ be16 (crc16 covered)

/-- The broadcast address of a BEACON (R51). -/
def broadcast : Byte := 127

/-- A BEACON announcing a cycle number (R51). -/
def beaconFrame (cycle : Word16) : List Byte := fieldFrame broadcast 1 (be16 cycle)

/-- A POLL with its S, A and G bits and downlink payload (Table 11-7, R50). -/
def pollFrame (addr : Byte) (s a g : Bool) (payload : List Byte) : List Byte :=
  fieldFrame addr (nat8 (128 * s.toNat + 64 * a.toNat + 32 * g.toNat + 2)) payload

/-- The kinds of reply a node may send. The S bit and the payload are handed on for DATA only (R54). -/
inductive ReplyKind where
  | data (s : Bool) (payload : List Byte)
  | idle
  | hold
  deriving DecidableEq, Repr

/-- What a valid reply hands to the Link Supervisor (R54, Table 1-2). -/
structure NodeReply where
  kind : ReplyKind
  f : Bool
  a : Bool
  deriving DecidableEq, Repr

/-- The kind that a CTRL byte's bits 2..0 name, for a reply with the payload given (Table 11-7, R182). -/
def replyKind (ctrl : Byte) (payload : List Byte) : Option ReplyKind :=
  match (ctrl.extractLsb' 0 3).toNat with
  | 3 => some (.data (ctrl.getLsbD 7) payload)
  | 4 => some .idle
  | 5 => some .hold
  | _ => none

/-- The judgement of a complete frame against the polled node's Address (R54): the three tests, with ADDR's reserved top
bit ignored (Table 11-6, R182), and what a valid reply hands on. `none` is spoiled. -/
def judgeFrame (address : Byte) (bytes : List Byte) : Option NodeReply :=
  match bytes with
  | addr :: ctrl :: l1 :: l0 :: rest =>
    let len := (word16 l1 l0).toNat
    let payload := rest.take len
    let crcOk := rest.drop len == be16 (crc16 (addr :: ctrl :: l1 :: l0 :: payload))
    match replyKind ctrl payload with
    | some kind =>
      if crcOk && addr.setWidth 7 == address.setWidth 7 then
        some { kind := kind, f := ctrl.getLsbD 5, a := ctrl.getLsbD 6 }
      else none
    | none => none
  | _ => none

/-! ## Channel blocks (Table 11-8, R184) -/

/-- A channel block: its tag, its kind and its content bytes. -/
structure Block where
  tag : Fin 8
  kind : Kind
  content : List Byte
  deriving DecidableEq, Repr

/-- The tag in a block's first byte (Table 11-8). -/
def blockTag (b : Byte) : Fin 8 := (b.extractLsb' 0 3).toFin

/-- The kind in a block's first byte (Table 11-8). -/
def blockKind (b : Byte) : Kind := if b.getLsbD 7 then .words else .bits

/-- The content bytes that a kind and a count define; `none` when R184 finds the count wrong. -/
def contentBytes (kind : Kind) (count : Nat) : Option Nat :=
  match kind with
  | .bits => if count = 0 ∨ count % 8 ≠ 0 ∨ 2048 < count then none else some (count / 8)
  | .words => if count = 0 ∨ 128 < count then none else some (2 * count)

/-- The blocks of a list from `payload` on, of which at most `room` may still come; `none` when the list is malformed
(R184). -/
def readBlocks : Nat → List Byte → Option (List Block)
  | _, [] => some []
  | 0, _ :: _ => none
  | room + 1, head :: c1 :: c0 :: rest =>
    match contentBytes (blockKind head) (word16 c1 c0).toNat with
    | none => none
    | some n =>
      if rest.length < n then none
      else (readBlocks room (rest.drop n)).map
        ({ tag := blockTag head, kind := blockKind head, content := rest.take n } :: ·)
  | _ + 1, _ => none

/-- The block list of a DATA reply; `none` when it is malformed (R10, R184). -/
def blockList (payload : List Byte) : Option (List Block) :=
  if payload = [] ∨ Config.blockListBytes < payload.length then none else readBlocks 8 payload

/-- The words of a WORDS block (R180). -/
def wordsOf : List Byte → List Int
  | hi :: lo :: rest => (word16 hi lo).toInt :: wordsOf rest
  | _ => []

/-- The input values of a block in their order, each as the decimation filter and as the comparator filter take it
(Tables 5-1 and 6-2). -/
def Block.inputs (b : Block) : List (Int × Int) :=
  match b.kind with
  | .bits => (b.content.flatMap byteBits).map fun bit => if bit then (1, 1) else (-1, 0)
  | .words => (wordsOf b.content).map fun w => (w, w)

/-! ## Arguments -/

/-- The node index an argument byte names; `none` above 31. -/
def nodeIndex (b : Byte) : Option (Fin 32) := if h : b.toNat < 32 then some ⟨b.toNat, h⟩ else none

/-- The stream number an argument byte names; `none` above 63. -/
def streamIndex (b : Byte) : Option (Fin 64) := if h : b.toNat < 64 then some ⟨b.toNat, h⟩ else none

/-- The tag an argument byte names; `none` above 7. -/
def tagIndex (b : Byte) : Option (Fin 8) := if h : b.toNat < 8 then some ⟨b.toNat, h⟩ else none

/-- A coded yes/no argument: 0 or 1, any other value names no choice (R182). -/
def yesNo (b : Byte) : Option Bool := if b = 0 then some false else if b = 1 then some true else none

/-- The timing parameters a TIMING names, or `none` when one is outside its range or FieldDivide is no multiple of 4
(Table 2-3, R41). -/
def parseTiming (a : TimingArgs) : Option Timing :=
  let t : Timing :=
    { tickDivide := a.tickDivide.toNat, cyclePeriod := a.cyclePeriod.toNat, replyTimeout := a.replyTimeout.toNat,
      turnGap := a.turnGap.toNat, retryLimit := a.retryLimit.toNat, probeInterval := a.probeInterval.toNat,
      deliverLimit := a.deliverLimit.toNat, holdLimit := a.holdLimit.toNat, fieldDivide := a.fieldDivide.toNat }
  if 1 ≤ t.tickDivide ∧ t.tickDivide ≤ 4096 ∧ 100 ≤ t.cyclePeriod ∧ 10 ≤ t.replyTimeout ∧ t.replyTimeout ≤ 20000 ∧
      t.turnGap ≤ 1000 ∧ 1 ≤ t.retryLimit ∧ t.retryLimit ≤ 15 ∧ 1 ≤ t.probeInterval ∧ 1 ≤ t.deliverLimit ∧
      t.deliverLimit ≤ 15 ∧ 1 ≤ t.holdLimit ∧ 8 ≤ t.fieldDivide ∧ t.fieldDivide ≤ 48 ∧ t.fieldDivide % 4 = 0 then
    some t
  else none

/-- The nine parameters as TIMING's reply carries them (Table 11-5). -/
def Timing.bytes (t : Timing) : List Byte :=
  nat16 t.tickDivide ++ nat16 t.cyclePeriod ++ nat16 t.replyTimeout ++ nat16 t.turnGap ++
    [nat8 t.retryLimit, nat8 t.probeInterval, nat8 t.deliverLimit, nat8 t.holdLimit, nat8 t.fieldDivide]

/-- TIMING's arguments read from its 13 argument bytes (Table 11-5). -/
def timingArgsOfBytes : List Byte → Option TimingArgs
  | [a1, a0, b1, b0, c1, c0, d1, d0, e, f, g, h, i] =>
    some { tickDivide := word16 a1 a0, cyclePeriod := word16 b1 b0, replyTimeout := word16 c1 c0, turnGap := word16 d1 d0,
           retryLimit := e, probeInterval := f, deliverLimit := g, holdLimit := h, fieldDivide := i }
  | _ => none

/-- TIMING's 13 argument bytes (Table 11-5). -/
def timingArgsBytes (a : TimingArgs) : List Byte :=
  be16 a.tickDivide ++ be16 a.cyclePeriod ++ be16 a.replyTimeout ++ be16 a.turnGap ++
    [a.retryLimit, a.probeInterval, a.deliverLimit, a.holdLimit, a.fieldDivide]

/-- STREAM SET's configuration read from its 27 bytes (section 11.2). -/
def streamArgsOfBytes : List Byte → Option StreamArgs
  | [node, tag, kind, k, r1, r0, output, shift, comparator, kc, rc, h3, h2, h1, h0, l3, l2, l1, l0, y1, y0, trip, integ, n,
      align, staleLimit, interval] =>
    some { node := node, tag := tag, kind := kind, k := k, r := word16 r1 r0, output := output, shift := shift,
           comparator := comparator, kc := kc, rc := rc, high := word32 h3 h2 h1 h0, low := word32 l3 l2 l1 l0,
           hysteresis := word16 y1 y0, tripCount := trip, integrator := integ, n := n, align := align,
           staleLimit := staleLimit, intervalInSummary := interval }
  | _ => none

/-- The 27 bytes of a configuration as given (section 11.2). -/
def streamArgsBytes (a : StreamArgs) : List Byte :=
  [a.node, a.tag, a.kind, a.k] ++ be16 a.r ++ [a.output, a.shift, a.comparator, a.kc, a.rc] ++ be32 a.high ++ be32 a.low ++
    be16 a.hysteresis ++ [a.tripCount, a.integrator, a.n, a.align, a.staleLimit, a.intervalInSummary]

/-- The Kind a coded argument names (Table 11-4). -/
def parseKind (b : Byte) : Option Kind := if b = 0 then some .bits else if b = 1 then some .words else none

/-- The sample output that the selector and Shift name; Shift is checked for SHORT only (R64). -/
def parseOutput (selector shift : Byte) : Option SampleOutput :=
  if selector = 0 then some .off
  else if selector = 1 then (if shift.toNat ≤ 24 then some (.short shift.toNat) else none)
  else if selector = 2 then some .long
  else none

/-- The comparator that the arguments name: `none` when out of range; its six values are checked when it is on only (R64,
Table 6-1). -/
def parseComparator (a : StreamArgs) : Option (Option ComparatorConfig) :=
  if a.comparator = 0 then some none
  else if a.comparator = 1 then
    let c : ComparatorConfig :=
      { kc := a.kc.toNat, rc := a.rc.toNat, high := a.high.toInt, low := a.low.toInt, hysteresis := a.hysteresis.toNat,
        tripCount := a.tripCount.toNat }
    if 1 ≤ c.kc ∧ c.kc ≤ 3 ∧ 1 ≤ c.rc ∧ c.rc ≤ 32 ∧ c.low < c.high ∧ 1 ≤ c.tripCount ∧ c.tripCount ≤ 15 then
      some (some c)
    else none
  else none

/-- The integrator mode that the arguments name; N and Align are checked for COUNT only (R64, R117). -/
def parseIntegrator (selector n align : Byte) : Option IntegratorMode :=
  if selector = 0 then some .off
  else if selector = 1 then
    match yesNo align with
    | some al => if 1 ≤ n.toNat ∧ n.toNat ≤ 128 then some (.count n.toNat al) else none
    | none => none
  else if selector = 2 then some .cycle
  else none

/-- The configuration that STREAM SET's arguments name for a valid node index and tag: `none` when a field is outside the
range of Table 4-1, R^k above 65536 for WORDS included (R70, check 5). -/
def parseStream (a : StreamArgs) (node : Fin 32) (tag : Fin 8) : Option StreamConfig :=
  match parseKind a.kind, parseOutput a.output a.shift, parseComparator a,
      parseIntegrator a.integrator a.n a.align, yesNo a.intervalInSummary with
  | some kind, some output, some comparator, some integrator, some interval =>
    let k := a.k.toNat
    let r := a.r.toNat
    if 1 ≤ k ∧ k ≤ 3 ∧ 1 ≤ r ∧ r ≤ 256 ∧ (kind = .words → r ^ k ≤ 65536) then
      some { node := node, tag := tag, kind := kind, k := k, r := r, output := output, comparator := comparator,
             integrator := integrator, staleLimit := a.staleLimit.toNat, intervalInSummary := interval }
    else none
  | _, _, _, _, _ => none

/-! ## Results (Table 11-5) -/

/-- The selector and Shift bytes of a sample output; Shift is held as 0 unless SHORT (R64). -/
def SampleOutput.bytes : SampleOutput → List Byte
  | .off => [0, 0]
  | .short shift => [1, nat8 shift]
  | .long => [2, 0]

/-- The comparator's bytes in a configuration; its six values are held as 0 when it is OFF (R102). -/
def comparatorBytes : Option ComparatorConfig → List Byte
  | none => [0, 0, 0] ++ int32 0 ++ int32 0 ++ [0, 0, 0]
  | some c => [1, nat8 c.kc, nat8 c.rc] ++ int32 c.high ++ int32 c.low ++ nat16 c.hysteresis ++ [nat8 c.tripCount]

/-- The integrator's bytes in a configuration; N and Align are held as 0 unless COUNT (R117). -/
def IntegratorMode.bytes : IntegratorMode → List Byte
  | .off => [0, 0, 0]
  | .count n align => [1, nat8 n, mark align]
  | .cycle => [2, 0, 0]

/-- The 27 bytes of a held configuration (section 11.2). -/
def StreamConfig.bytes (c : StreamConfig) : List Byte :=
  [nat8 c.node, nat8 c.tag, c.kind.code, nat8 c.k] ++ nat16 c.r ++ c.output.bytes ++ comparatorBytes c.comparator ++
    c.integrator.bytes ++ [nat8 c.staleLimit, mark c.intervalInSummary]

/-- The 28 bytes of running state in STREAM READ (section 11.2). -/
def StreamRun.bytes (r : StreamRun) : List Byte :=
  [nat8 r.filter.phase, nat8 r.countdown, r.seq] ++ be16 r.outputs ++
    [r.cmpState.code, nat8 r.beyondCount, beyondCode r.beyondDir, nat8 r.cmpFilter.phase] ++ int32 r.sum ++
    be16 r.sumCount ++ be16 r.windowCount ++ [markByte [r.overflow, r.waiting]] ++ be16 r.elapsed ++
    [markByte [r.elapsedOver, r.hasStamp, r.intervalOverflow, r.stale]] ++ be16 r.lastInterval ++ [nat8 r.cyclesSince] ++
    be16 r.blocks ++ be16 r.kindMismatch

/-- The 8 bytes of bin occupancy: bin b at bit 7 − (b mod 8) of byte b div 8, the place of bin 0 reserved (R62,
section 11.2). -/
def binBytes (bins : BitVec 64) : List Byte :=
  (List.range 8).map fun i => byteOfBits ((List.range 8).map fun j => 8 * i + j != 0 && bins.getLsbD (8 * i + j))

/-- The slot's part of NODE READ: Tag, payload length and Attempts, reserved (zero) when the slot is absent (R183). -/
def slotBytes : Option DownPayload → List Byte
  | none => [0, 0, 0, 0]
  | some p => be16 p.tag ++ [nat8 p.payload.length, nat8 p.attempts]

/-- LastAttemptAnswered of a slot, reserved (zero) when it is absent. -/
def slotAnswered : Option DownPayload → Bool
  | none => false
  | some p => p.lastAnswered

/-- The seven counters in NODE READ's order (Table 11-5). -/
def NodeCounters.bytes (c : NodeCounters) : List Byte :=
  be16 c.polls ++ be16 c.accepted ++ be16 c.duplicates ++ be16 c.timeouts ++ be16 c.spoiled ++ be16 c.holds ++
    be16 c.protocolErrors

/-- NODE READ's results, for the value LateTag reads as and the node's Unclaimed count (Table 11-5, R20). -/
def NodeEntry.bytes (e : NodeEntry) (lateTag unclaimed : Word16) : List Byte :=
  [e.address, e.state.code,
   markByte [e.expectRx, e.sendTx, e.held, e.resync.isSome, e.slot.isSome, slotAnswered e.slot],
   nat8 e.retryCount, nat8 e.holdCount, nat8 e.probeCountdown] ++ slotBytes e.slot ++ be16 lateTag ++
    e.counters.bytes ++ be16 unclaimed

/-- The six loss counters in QUEUE READ's order (Table 11-5). -/
def LossCounters.bytes (l : LossCounters) : List Byte :=
  be16 l.sample ++ be16 l.summary ++ be16 l.comparator ++ be16 l.stale ++ be16 l.node ++ be16 l.delivery

end Sys2Proof.Machine
end

