-- ==== Sys2Proof/Machine/Flags.lean ====
section
/-! DEFINITION. The sticky flags and alerts (section 10.3): raising and clearing flags, ALERT_N, the alert test. Every change
of a flag or of the mask goes through this file. -/

namespace Sys2Proof.Machine

/-- The bit of a flag in a flag set (Table 11-3). -/
def Flag.bit : Flag → Nat
  | .trip => 0
  | .stale => 1
  | .node => 2
  | .proto => 3
  | .overrun => 4
  | .loss => 5
  | .line => 6
  | .trunk => 7
  | .delivery => 8
  | .saturate => 9

/-- The flag set that names one flag. -/
def Flag.set (f : Flag) : BitVec 10 := 1#10 <<< f.bit

/-- Some flag is both set and named in the mask (R171). -/
def StatusUnit.masked (u : StatusUnit) : Bool := u.flags &&& u.mask != 0

/-- ALERT_N follows the flags and the mask (R171). -/
def StatusUnit.drive (u : StatusUnit) : StatusUnit := { u with alertN := u.masked }

/-- The alert test (R172): armed with a set flag masked, an ALERT frame is made, replacing an earlier one (R173), and the
alert is disarmed. -/
def StatusUnit.alertTest (u : StatusUnit) (cycle : Word16) : StatusUnit :=
  if u.armed && u.masked then
    { u with alertSlot := some { flags := u.flags, mask := u.mask, cycle := cycle }, armed := false }
  else u

/-- A raise of a flag: it is set, ALERT_N follows, and the alert test is made (R170). -/
def StatusUnit.raise (u : StatusUnit) (f : Flag) (cycle : Word16) : StatusUnit :=
  { u with flags := u.flags ||| f.set }.drive.alertTest cycle

/-- Steps 2 and 3 of STATUS: the named flags are cleared, the alert is re-armed, and the alert test is made (R174). -/
def StatusUnit.clear (u : StatusUnit) (set : BitVec 10) (cycle : Word16) : StatusUnit :=
  { u with flags := u.flags &&& ~~~set, armed := true }.drive.alertTest cycle

/-- The three steps of ALERT MASK (R175). -/
def StatusUnit.setMask (u : StatusUnit) (mask : BitVec 10) (cycle : Word16) : StatusUnit :=
  { u with mask := mask }.drive.alertTest cycle

/-- The Status and Alert Unit's part of FLUSH: flags cleared, Alert Slot emptied, alert armed, ALERT_N released, and
FlushCount incremented (R178). -/
def StatusUnit.flush (u : StatusUnit) : StatusUnit :=
  { u with flags := 0, alertSlot := none, armed := true, alertN := false, flushCount := bump u.flushCount }

/-- A raise of a flag in the machine, with the cycle number as the Cycle Timer holds it (R170, R172). -/
def State.raise (s : State) (f : Flag) : State :=
  { s with status := s.status.raise f s.timer.cycleNumber }

end Sys2Proof.Machine
end

