-- ==== Sys2Proof/Machine/Ops.lean ====
section
/-! DEFINITION. The shared operations every meaning is written over: the uplink queue, the effects of an event, the node
table and the streams, the field port's ends, the engine's entry into HALTED, the trunk transmitter's choice, and the two
shells of a step: an event, and a host command with its reply. -/

namespace Sys2Proof.Machine

/-! ## The uplink queue (chapter 8) -/

/-- The frames of the queue, oldest first; the open frame is the last (R132). -/
def UplinkQueue.frames (q : UplinkQueue) : List ReportFrame := q.closed ++ q.openFrame.toList

/-- The occupancy: the sum of the body lengths of all frames held (R132). -/
def UplinkQueue.occupancy (q : UplinkQueue) : Nat := (q.frames.map ReportFrame.size).sum

/-- The Half indicator (R140). -/
def UplinkQueue.half (q : UplinkQueue) : Bool := Config.halfBytes ≤ q.occupancy

/-- The Throttled mark evaluated against the occupancy (R139). -/
def UplinkQueue.evaluate (q : UplinkQueue) : UplinkQueue :=
  if q.highMark ≤ q.occupancy then { q with throttled := true }
  else if q.occupancy ≤ q.lowMark then { q with throttled := false }
  else q

/-- The frame with one more entry at its end (R133). -/
def ReportFrame.add (f : ReportFrame) (e : Entry) : ReportFrame := { f with entries := f.entries ++ [e] }

/-- Whether the entry just placed last in a frame closes it (R136). -/
def ReportFrame.closesOn (f : ReportFrame) (e : Entry) : Bool := Config.frameEntries ≤ f.entries.length || e.urgent

/-- The close flags that the entry just placed last gives its frame (R136). -/
def ReportFrame.closedBy (f : ReportFrame) (e : Entry) : ReportFrame :=
  { f with flags := { f.flags with
      full := f.flags.full || Config.frameEntries ≤ f.entries.length
      urgent := f.flags.urgent || e.urgent } }

/-- A frame with its new last entry takes its place at the queue's tail: open, or closed at once when it is full or the
entry is urgent (R133, R136). -/
def UplinkQueue.place (q : UplinkQueue) (f : ReportFrame) (e : Entry) : UplinkQueue :=
  if f.closesOn e then { q with closed := q.closed ++ [f.closedBy e], openFrame := none }
  else { q with openFrame := some f }

/-- Case 1 of R133: the open frame, when the entry can join it. -/
def UplinkQueue.joinable (q : UplinkQueue) (e : Entry) : Option ReportFrame :=
  match q.openFrame with
  | some f =>
    if f.entries.length < Config.frameEntries ∧ q.occupancy + e.size ≤ Config.queueBytes then some f else none
  | none => none

/-- Case 2 of R133: the queue has room for a new frame with the entry. -/
def UplinkQueue.roomToOpen (q : UplinkQueue) (e : Entry) : Bool :=
  q.frames.length < Config.queueFrames && q.occupancy + Config.headerBytes + e.size ≤ Config.queueBytes

/-- The frame an entry opens (R134). -/
def UplinkQueue.newFrame (q : UplinkQueue) (cycle : Word16) (e : Entry) : ReportFrame :=
  { cycle := cycle, flags := ⟨false, false, false, false⟩, droppedBefore := q.droppedSinceOpen, entries := [e] }

/-- The loss counter of an entry's kind incremented (Table 8-2). -/
def LossCounters.count (l : LossCounters) : Entry → LossCounters
  | .sample _ _ _ _ _ _ => { l with sample := bump l.sample }
  | .summary _ _ _ _ _ _ _ => { l with summary := bump l.summary }
  | .trip _ _ _ | .release _ _ _ _ => { l with comparator := bump l.comparator }
  | .stale _ _ => { l with stale := bump l.stale }
  | .nodeUp _ _ | .nodeDown _ => { l with node := bump l.node }
  | .delivery _ _ _ _ => { l with delivery := bump l.delivery }

/-- The addition of an entry (R133): it joins the open frame, or opens a frame (R134), or is dropped and counted (R135);
the Throttled mark is then evaluated. The Boolean says that it was dropped. -/
def UplinkQueue.add (q : UplinkQueue) (cycle : Word16) (e : Entry) : UplinkQueue × Bool :=
  match q.joinable e with
  | some f => ((q.place (f.add e) e).evaluate, false)
  | none =>
    if q.roomToOpen e then
      (({ q with closed := q.frames, openFrame := none, droppedSinceOpen := 0 }.place (q.newFrame cycle e) e).evaluate,
        false)
    else
      ({ q with droppedSinceOpen := bump q.droppedSinceOpen, lost := q.lost.count e }.evaluate, true)

/-- The open frame, if there is one, is closed with the flags that `mark` sets (R137, R138). -/
def UplinkQueue.close (q : UplinkQueue) (mark : CloseFlags → CloseFlags) : UplinkQueue :=
  match q.openFrame with
  | some f => { q with closed := q.closed ++ [{ f with flags := mark f.flags }], openFrame := none }
  | none => q

/-- The queue emptied by FLUSH; the marks are kept (R146). -/
def UplinkQueue.flush (q : UplinkQueue) : UplinkQueue :=
  { q with closed := [], openFrame := none, droppedSinceOpen := 0, lost := LossCounters.zero, throttled := false }

/-- The queue marks byte: bit 0 Throttled, bit 1 Half (Table 11-5). -/
def UplinkQueue.marks (q : UplinkQueue) : Byte := markByte [q.throttled, q.half]

/-! ## Effects of an event on the queue and the flags -/

/-- What an event on a node or a stream does outside it: it adds an entry, or raises a flag. -/
inductive Effect where
  | add (e : Entry)
  | raise (f : Flag)
  deriving DecidableEq, Repr

/-- An entry added to the queue; a drop raises LOSS (R135, R150). -/
def State.addEntry (s : State) (e : Entry) : State :=
  match s.queue.add s.timer.cycleNumber e with
  | (q, false) => { s with queue := q }
  | (q, true) => { s with queue := q }.raise .loss

/-- One effect. -/
def State.effect (s : State) : Effect → State
  | .add e => s.addEntry e
  | .raise f => s.raise f

/-- The effects of an event, in the order the event states. -/
def State.emit (s : State) (effects : List Effect) : State := effects.foldl State.effect s

/-! ## Node table and streams -/

/-- The entry at a node index changed; a FREE entry stays FREE. -/
def State.modifyNode (s : State) (i : Fin 32) (f : NodeEntry → NodeEntry) : State :=
  { s with nodes := s.nodes.set i (s.nodes[i].map f) }

/-- The counters of a node entry changed. -/
def NodeEntry.tally (e : NodeEntry) (f : NodeCounters → NodeCounters) : NodeEntry := { e with counters := f e.counters }

/-- A node's Unclaimed counter (R66). -/
def State.setUnclaimed (s : State) (i : Fin 32) (n : Word16) : State := { s with unclaimed := s.unclaimed.set i n }

/-- The stream context at a number replaced. -/
def State.setStream (s : State) (i : Fin 64) (c : Option StreamCtx) : State := { s with streams := s.streams.set i c }

/-- Every stream other than UNUSED changed by `f`, with its effects in ascending stream number (section 4.4, R124). -/
def State.eachStream (s : State) (f : Fin 64 → StreamCtx → StreamCtx × List Effect) : State :=
  { s with streams := Vector.ofFn fun i => s.streams[i].map fun c => (f i c).1 }.emit
    ((List.finRange 64).flatMap fun i => match s.streams[i] with
      | some c => (f i c).2
      | none => [])

/-- The stream, other than UNUSED, that holds a (node index, tag) pair: the binding map (R66). -/
def State.bound (s : State) (node : Fin 32) (tag : Fin 8) : Option (Fin 64) :=
  (List.finRange 64).find? fun i => match s.streams[i] with
    | some c => c.config.node == node && c.config.tag == tag
    | none => false

/-- Some stream other than UNUSED names the node (R19). -/
def State.nodeBound (s : State) (node : Fin 32) : Bool :=
  (List.finRange 64).any fun i => match s.streams[i] with
    | some c => c.config.node == node
    | none => false

/-- The node index whose in-use entry holds an address, other than `node` (R17, check 3). -/
def State.addressTaken (s : State) (node : Fin 32) (address : Byte) : Bool :=
  (List.finRange 32).any fun j => j != node && (match s.nodes[j] with
    | some e => e.address == address
    | none => false)

/-- An exchange with the node is in flight (R4). -/
def State.inFlight (s : State) (node : Fin 32) : Bool :=
  match s.port.exchange with
  | some x => x.node == node
  | none => false

/-! ## Engine and Field Port -/

/-- The Field Port is ready: IDLE with its turn-gap timer not running (R49). -/
def FieldPort.ready (p : FieldPort) : Bool := p.state == .idle && p.turnGap.isNone

/-- The engine enters HALTED from RUNNING or STOPPING: the open report frame is closed with the HALT flag (R31, R138). -/
def State.enterHalted (s : State) : State :=
  { s with timer := { s.timer with engine := .halted }, queue := s.queue.close fun c => { c with halt := true } }

/-- A STOPPING engine becomes HALTED when the exchange or the beacon's transmission in progress ends (R30). -/
def State.stopIfStopping (s : State) : State := if s.timer.engine = .stopping then s.enterHalted else s

/-- The turn-gap timer started with TurnGap ticks; with TurnGap 0 it does not run (R49). -/
def Timing.startGap (t : Timing) : Option Nat := if t.turnGap = 0 then none else some t.turnGap

/-- The port returns to IDLE, releases the line, and starts its turn gap (R49, R51, R53). -/
def State.portToIdle (s : State) : State :=
  { s with port := { state := .idle, exchange := none, replyTimer := none, turnGap := s.timer.timing.startGap,
                     fldDe := false } }

/-- The end of an exchange, once its outcome is applied: the port returns to IDLE with its turn gap started, a probe's
countdown is reloaded, and a STOPPING engine becomes HALTED (R55, R38, R30). -/
def State.endExchange (s : State) (x : Exchange) : State :=
  let s := s.portToIdle
  let s := if x.probe then s.modifyNode x.node fun e => { e with probeCountdown := s.timer.timing.probeInterval } else s
  s.stopIfStopping

/-- The Field Port's work abandoned: IDLE and ready, both timers stopped, FLD_DE released (R56). -/
def FieldPort.abandoned : FieldPort :=
  { state := .idle, exchange := none, replyTimer := none, turnGap := none, fldDe := false }

/-! ## The tick (R24, R25, R49, R80) -/

/-- One tick of a running timer. -/
def countDown : Option Nat → Option Nat
  | some (n + 1) => some n
  | some 0 => some 0
  | none => none

/-- One tick of an ACTIVE stream's interval meter (R80). -/
def StreamCtx.tick (c : StreamCtx) : StreamCtx :=
  if c.state = .active then
    if c.run.elapsed = 0xFFFF then { c with run := { c.run with elapsedOver := true } }
    else { c with run := { c.run with elapsed := c.run.elapsed + 1 } }
  else c

/-- A completed tick: the divider begins its next one, the cycle counter of a RUNNING engine and the field timers count, and
so does the interval meter of every ACTIVE stream. -/
def State.tick (s : State) : State :=
  { s with
    timer := { s.timer with
      divider := 0
      cycleCounter := if s.timer.engine = .running then s.timer.cycleCounter + 1 else s.timer.cycleCounter }
    port := { s.port with replyTimer := countDown s.port.replyTimer, turnGap := countDown s.port.turnGap }
    streams := s.streams.map fun c => c.map StreamCtx.tick }

/-- One reference period: the tick divider counts it, and completes a tick after TickDivide of them (R24). It does not run
while master reset holds the part (R177). -/
def State.referencePeriod (s : State) : State :=
  if s.holding.isSome then s
  else if s.timer.divider + 1 < s.timer.timing.tickDivide then
    { s with timer := { s.timer with divider := s.timer.divider + 1 } }
  else s.tick

/-! ## The cycle boundary in the Cycle Timer and the Poll Scheduler (R27) -/

/-- OverrunCount increased by `n` and OVERRUN raised, when `n` is above 0 (R40). -/
def State.overrun (s : State) (n : Nat) : State :=
  if n = 0 then s
  else { s with sched := { s.sched with overrunCount := bumpBy s.sched.overrunCount n } }.raise .overrun

/-- The ProbeCountdown of a DOWN node decremented, if it stands above 0 (R27). -/
def NodeEntry.probeTick (e : NodeEntry) : NodeEntry :=
  if e.state = .down then { e with probeCountdown := e.probeCountdown - 1 } else e

/-- A cycle boundary with its six effects in the order of R27, of which `untaken` slots are counted as overrun (R40), and
the notices to the other blocks, with the number of the cycle that it ends. R27 does not order the reactions of those blocks
against these effects; that all six are taken before any reaction is the model's choice (log entry 20, DESIGN CHOICE). -/
def State.boundary (s : State) (untaken : Nat) : State :=
  let ended := s.timer.cycleNumber
  let s := { s with timer := { s.timer with cycleNumber := ended + 1 } }
  let s := s.overrun untaken
  let s := { s with sched := { s.sched with
    active := s.sched.pending.getD s.sched.active, pending := none, position := 0 } }
  let s := s.overrun (if s.sched.beacon.isSome then 1 else 0)
  { s with
    sched := { s.sched with beacon := some (ended + 1) }
    nodes := s.nodes.map fun e => e.map NodeEntry.probeTick
    notices := { streamEngine := s.notices.streamEngine ++ [ended], assembler := s.notices.assembler + 1 } }

/-! ## The Trunk Transmitter's choice (R143) -/

/-- The frames that wait for the transmitter, in the arbiter's order: the Reply Slot, the Alert Slot, a closed head frame. -/
def State.waiting (s : State) : List TxSource :=
  (if s.replySlot.isSome then [.reply] else []) ++ (if s.status.alertSlot.isSome then [.alert] else []) ++
    (if s.queue.closed.isEmpty then [] else [.report])

/-- After an event, from the state `before` it to the state `after` it: when it found the transmitter IDLE with no frame
waiting and left it IDLE with two or more, these frames began to wait together (R143). A busy transmitter has no such frames.
A step that holds several events notes them one by one (log entry 3). -/
def State.settle (before after : State) : State :=
  if before.transmission.isSome || after.transmission.isSome then { after with tied := [] }
  else if before.waiting = [] then
    { after with tied := if 2 ≤ after.waiting.length then after.waiting else [] }
  else after

/-- A free value drawn: the next one is another. -/
def State.drawIf (s : State) (b : Bool) : State := if b then { s with freeCount := s.freeCount + 1 } else s

/-! ## The two shells of a step -/

/-- A step outside master reset. While master reset holds the part, nothing but its own events reaches it (R177). -/
def outsideReset (s : State) (f : State → State) : Host.Outcome State Fault Refusal :=
  .next (if s.holding.isSome then s else f s)

/-- A step that is one event of the part. -/
def event (s : State) (f : State → State) : Host.Outcome State Fault Refusal := outsideReset s fun s => s.settle (f s)

/-- What a host command's own rule answers: the state with its effects, the status and the result bytes (R169). Where other
events are taken before the command's own, as by HALT (R45), `since` is the state they have reached. -/
structure Answer where
  state : State
  status : Status
  results : List Byte
  since : Option State := none

/-- A command refused without any effect and without results (R169). -/
def refuse (s : State) (status : Status) : Answer := { state := s, status := status, results := [] }

/-- A good frame dropped because the Reply Slot holds a frame (R168). -/
def State.dropCommand (s : State) : State :=
  { s with droppedCommands := bump s.droppedCommands }.raise .trunk

/-- The REPLY placed in the Reply Slot once every effect of the command has been taken (R168, R169). -/
def Answer.place (a : Answer) (opcode : Byte) (ref : Word16) : State :=
  { a.state with replySlot := some { opcode := opcode, ref := ref, status := a.status, results := a.results } }

/-- A good frame taken or dropped by the Command Unit, as one event (R168): it is dropped when the Reply Slot is occupied, and
otherwise its rule answers and the reply is placed. -/
def State.take (s : State) (opcode : Byte) (ref : Word16) (body : State → Answer) : State :=
  if s.replySlot.isSome then s.settle s.dropCommand
  else ((body s).since.getD s).settle ((body s).place opcode ref)

/-- A host command as a step of its own: its good COMMAND frame is handed to the Command Unit (R167 to R169). -/
def command (opcode : Byte) (ref : Word16) (body : State → Answer) (s : State) : Host.Outcome State Fault Refusal :=
  outsideReset s fun s => s.take opcode ref body

end Sys2Proof.Machine
end

