-- ==== Sys2Proof/Machine/Streams.lean ====
section
/-! DEFINITION. What happens inside a stream context: the filters (chapters 5 and 6), the comparator (chapter 6), the
integrator (chapter 7), the interval meter and stale detection (chapter 4), the restart and the notices (chapter 4), and the
dispatch of channel blocks. -/

namespace Sys2Proof.Machine

/-! ## Filters (R87 to R89) -/

/-- The number of ways in which `j` can be written as an ordered sum of `k` whole numbers, each in 0..R−1: the weight c(j)
of R88, in its own words. -/
def filterWays : Nat → Nat → Nat → Nat
  | 0, _, j => if j = 0 then 1 else 0
  | k + 1, r, j => ((List.range r).map fun i => if i ≤ j then filterWays k r (j - i) else 0).sum

/-- Two lists of weights added place by place, the longer one's tail kept. -/
def addWeights : List Nat → List Nat → List Nat
  | [], bs => bs
  | as, [] => as
  | a :: as, b :: bs => (a + b) :: addWeights as bs

/-- The running sum of `n` copies of a list of weights, each one place later. -/
def runningSum : Nat → List Nat → List Nat
  | 0, _ => []
  | n + 1, ws => addWeights ws (0 :: runningSum n ws)

/-- The weights of a filter of order `k` and ratio `r`, from distance 0 to k·(R−1): the k-fold repetition of a running sum
of R inputs (section 5.2, R88). -/
def filterWeights : Nat → Nat → List Nat
  | 0, _ => [1]
  | k + 1, r => runningSum r (filterWeights k r)

/-- The weighted sum of a window, exactly (R88, R89). -/
def weightedSum : List Nat → List Int → Int
  | w :: ws, x :: xs => (w : Int) * x + weightedSum ws xs
  | _, _ => 0

/-- A filter after a restart: k·(R−1) zeros and phase 0 (R89, R99, R115). -/
def FilterState.fresh (k r : Nat) : FilterState := { history := List.replicate (k * (r - 1)) 0, phase := 0 }

/-- One input taken (R87 to R89): it joins the history, and the R-th since the last output makes an output. -/
def FilterState.push (f : FilterState) (k r : Nat) (x : Int) : FilterState × Option Int :=
  let window := x :: f.history
  let history := window.take (k * (r - 1))
  if f.phase + 1 < r then ({ history := history, phase := f.phase + 1 }, none)
  else ({ history := history, phase := 0 }, some (weightedSum (filterWeights k r) window))

/-- Unsettled outputs after a restart (Table 5-4). -/
def unsettledOutputs (k r : Nat) : Nat :=
  if r ≤ 1 ∨ k ≤ 1 then 0 else if k = 2 then 1 else if r = 2 then 1 else 2

/-! ## Restart (R68, Table 4-2) -/

/-- The starting values of the running state for a configuration (Table 4-2, R99, R115, R118). -/
def StreamRun.fresh (c : StreamConfig) : StreamRun where
  filter := FilterState.fresh c.k c.r
  countdown := unsettledOutputs c.k c.r
  seq := 0
  cmpFilter := match c.comparator with
    | some m => FilterState.fresh m.kc m.rc
    | none => { history := [], phase := 0 }
  cmpState := .inside
  beyondCount := 0
  beyondDir := none
  sum := 0
  sumCount := 0
  windowCount := 0
  overflow := false
  waiting := match c.integrator with
    | .count _ align => align
    | .off | .cycle => false
  elapsed := 0
  elapsedOver := false
  hasStamp := false
  lastInterval := 0
  intervalOverflow := false
  cyclesSince := 0
  stale := false
  blocks := 0
  kindMismatch := 0
  outputs := 0

/-- The RELEASE, with value 0, of a trip that a suspension, a disable or a restart ends (R111); none in INSIDE. -/
def StreamRun.releaseFor (r : StreamRun) (i : Fin 64) (cause : ReleaseCause) : List Effect :=
  match r.cmpState with
  | .inside => []
  | .above => [.add (.release i .high cause 0)]
  | .below => [.add (.release i .low cause 0)]

/-- A standing trip ended: INSIDE, count 0, direction NONE; a stream in INSIDE keeps its count (R111, R115). -/
def StreamRun.endTrip (r : StreamRun) : StreamRun :=
  match r.cmpState with
  | .inside => r
  | .above | .below => { r with cmpState := .inside, beyondCount := 0, beyondDir := none }

/-- The integrator's window given up or reopened: Sum, SumCount, WindowCount and the overflow mark at their starting
values, the waiting mark kept (R121, R127). -/
def StreamRun.emptyWindow (r : StreamRun) : StreamRun :=
  { r with sum := 0, sumCount := 0, windowCount := 0, overflow := false }

/-- A stream put aside by STREAM DISABLE or a suspension: its trip ended, its window given up, the rest kept (R72, R75). -/
def StreamCtx.setAside (c : StreamCtx) (state : StreamState) : StreamCtx :=
  { c with state := state, run := c.run.endTrip.emptyWindow }

/-- A restarted stream in the state that its event gives (R68). -/
def StreamCtx.restarted (c : StreamCtx) (state : StreamState) : StreamCtx :=
  { c with state := state, run := StreamRun.fresh c.config }

/-! ## SAMPLE entries (R93 to R96) -/

/-- The value of a SHORT SAMPLE and its C flag (R93). -/
def shortValue (shift : Nat) (out : Int) : Int × Bool :=
  let v := Int.fdiv out (2 ^ shift)
  if 32767 < v then (32767, true) else if v < -32768 then (-32768, true) else (v, false)

/-- The SAMPLE entry of an output, after the raise of SATURATE for a saturated SHORT value (R92, R93, R94, R96). -/
def sampleEffects (i : Fin 64) (output : SampleOutput) (seq : Byte) (unsettled : Bool) (out : Int) : List Effect :=
  match output with
  | .off => []
  | .short shift =>
    let v := shortValue shift out
    (if v.2 then [.raise .saturate] else []) ++ [.add (.sample i seq unsettled v.2 false v.1)]
  | .long => [.add (.sample i seq unsettled false true out)]

/-! ## Integrator (R119 to R125) -/

/-- The signed 32-bit range (R120). -/
def inRange32 (v : Int) : Bool := -2147483648 ≤ v && v ≤ 2147483647

/-- The SUMMARY of the window that closes (R125). -/
def StreamRun.summary (r : StreamRun) (i : Fin 64) (c : StreamConfig) (cycleMode : Bool) (closing : Word16) : Entry :=
  .summary i cycleMode r.overflow r.sum r.sumCount closing (if c.intervalInSummary then r.lastInterval else 0)

/-- An output added to Sum, or restarting it when the exact total leaves the range; WindowCount counts it (R119, R120). -/
def StreamRun.addOutput (r : StreamRun) (out : Int) : StreamRun × List Effect :=
  let total := r.sum + out
  let r := { r with windowCount := bump r.windowCount }
  if inRange32 total then ({ r with sum := total, sumCount := bump r.sumCount }, [])
  else ({ r with sum := out, sumCount := 1, overflow := true }, [.raise .saturate])

/-- An output handed to the integrator (R119): added unless OFF or waiting, and in COUNT mode the output that brings
WindowCount to N closes the window (R121). -/
def StreamRun.integrate (r : StreamRun) (i : Fin 64) (c : StreamConfig) (cycle : Word16) (out : Int) :
    StreamRun × List Effect :=
  match c.integrator with
  | .off => (r, [])
  | .cycle => r.addOutput out
  | .count n _ =>
    if r.waiting then (r, [])
    else
      let (r, effects) := r.addOutput out
      if r.windowCount.toNat = n then (r.emptyWindow, effects ++ [.add (r.summary i c false cycle)])
      else (r, effects)

/-! ## Decimation output (R91, R92) -/

/-- What an output of the decimation filter does: its number and count, its SAMPLE, its hand-off to the integrator
(R92). -/
def StreamRun.decimated (r : StreamRun) (i : Fin 64) (c : StreamConfig) (cycle : Word16) (out : Int) :
    StreamRun × List Effect :=
  let sample := sampleEffects i c.output r.seq (0 < r.countdown) out
  let r := { r with seq := r.seq + 1, outputs := bump r.outputs, countdown := r.countdown - 1 }
  let (r, effects) := r.integrate i c cycle out
  (r, sample ++ effects)

/-! ## Comparator (R106 to R110) -/

/-- The trip of R107. -/
def StreamRun.trip (r : StreamRun) (i : Fin 64) (dir : Direction) (out : Int) : StreamRun × List Effect :=
  ({ r with
      cmpState := match dir with
        | .high => .above
        | .low => .below
      beyondCount := 0
      beyondDir := none },
   [.add (.trip i dir out), .raise .trip])

/-- An output beyond a limit counted in its direction, and the trip it completes (R106, R107). -/
def StreamRun.beyond (r : StreamRun) (i : Fin 64) (m : ComparatorConfig) (dir : Direction) (out : Int) :
    StreamRun × List Effect :=
  let count := if r.beyondDir = some dir then r.beyondCount + 1 else 1
  if m.tripCount ≤ count then r.trip i dir out
  else ({ r with beyondCount := count, beyondDir := some dir }, [])

/-- A comparator output judged in INSIDE (R106). -/
def StreamRun.judge (r : StreamRun) (i : Fin 64) (m : ComparatorConfig) (out : Int) : StreamRun × List Effect :=
  if m.high < out then r.beyond i m .high out
  else if out < m.low then r.beyond i m .low out
  else ({ r with beyondCount := 0, beyondDir := none }, [])

/-- The release of a trip by an output, which is then judged in INSIDE (R108, R109, R110). -/
def StreamRun.releasedBy (r : StreamRun) (i : Fin 64) (m : ComparatorConfig) (dir : Direction) (out : Int) :
    StreamRun × List Effect :=
  let (r, effects) := { r with cmpState := .inside }.judge i m out
  (r, .add (.release i dir .level out) :: effects)

/-- A comparator output (R106, R108, R109). -/
def StreamRun.compared (r : StreamRun) (i : Fin 64) (m : ComparatorConfig) (out : Int) : StreamRun × List Effect :=
  match r.cmpState with
  | .inside => r.judge i m out
  | .above => if out ≤ m.high - m.hysteresis then r.releasedBy i m .high out else (r, [])
  | .below => if m.low + m.hysteresis ≤ out then r.releasedBy i m .low out else (r, [])

/-! ## One input value and one block (R79, R80) -/

/-- An input value given to the decimation filter (R79, R87). -/
def StreamRun.decimate (r : StreamRun) (i : Fin 64) (c : StreamConfig) (cycle : Word16) (x : Int) :
    StreamRun × List Effect :=
  match r.filter.push c.k c.r x with
  | (f, none) => ({ r with filter := f }, [])
  | (f, some out) => { r with filter := f }.decimated i c cycle out

/-- An input value given to the comparator filter of a comparator that is on (R102 to R104). -/
def StreamRun.compare (r : StreamRun) (i : Fin 64) (c : StreamConfig) (x : Int) : StreamRun × List Effect :=
  match c.comparator with
  | none => (r, [])
  | some m =>
    match r.cmpFilter.push m.kc m.rc x with
    | (f, none) => ({ r with cmpFilter := f }, [])
    | (f, some out) => { r with cmpFilter := f }.compared i m out

/-- One input value, first to the decimation filter and then to the comparator filter (R79, R105). -/
def StreamRun.input (r : StreamRun) (i : Fin 64) (c : StreamConfig) (cycle : Word16) (x : Int × Int) :
    StreamRun × List Effect :=
  let (r, first) := r.decimate i c cycle x.1
  let (r, second) := r.compare i c x.2
  (r, first ++ second)

/-- The input values of a block one at a time (R79). -/
def StreamRun.inputs (r : StreamRun) (i : Fin 64) (c : StreamConfig) (cycle : Word16) :
    List (Int × Int) → StreamRun × List Effect
  | [] => (r, [])
  | x :: xs =>
    let (r, first) := r.input i c cycle x
    let (r, rest) := r.inputs i c cycle xs
    (r, first ++ rest)

/-- The interval meter records a block (R80). -/
def StreamRun.stamp (r : StreamRun) : StreamRun :=
  { r with
    lastInterval := if r.hasStamp then r.elapsed else r.lastInterval
    intervalOverflow := r.intervalOverflow || (r.hasStamp && r.elapsedOver)
    hasStamp := true
    elapsed := 0
    elapsedOver := false }

/-- The four stages of the taking of a block (R79). -/
def StreamRun.takeBlock (r : StreamRun) (i : Fin 64) (c : StreamConfig) (cycle : Word16) (b : Block) :
    StreamRun × List Effect :=
  let r := { r with blocks := bump r.blocks }.stamp
  { r with stale := false, cyclesSince := 0 }.inputs i c cycle b.inputs

/-- A block of an accepted DATA frame dispatched (R78): taken by the ACTIVE stream of its pair when the kinds agree, else
discarded and counted. -/
def State.dispatch (s : State) (node : Fin 32) (b : Block) : State :=
  match s.bound node b.tag with
  | none => s.setUnclaimed node (bump s.unclaimed[node])
  | some i =>
    match s.streams[i] with
    | none => s
    | some c =>
      if c.state = .active then
        if b.kind = c.config.kind then
          let (r, effects) := c.run.takeBlock i c.config s.timer.cycleNumber b
          (s.setStream i (some { c with run := r })).emit effects
        else
          s.setStream i (some { c with run := { c.run with kindMismatch := bump c.run.kindMismatch } })
      else s.setUnclaimed node (bump s.unclaimed[node])

/-! ## Notices from the Link Supervisor (R75 to R77) -/

/-- The node has gone DOWN: each ACTIVE stream of the node becomes SUSPENDED (R75). -/
def State.suspendStreams (s : State) (node : Fin 32) : State :=
  s.eachStream fun i c =>
    if c.config.node = node ∧ c.state = .active then (c.setAside .suspended, c.run.releaseFor i .suspend) else (c, [])

/-- The node has left DOWN on a valid reply: each SUSPENDED stream of the node is restarted and becomes ACTIVE (R76). -/
def State.resumeStreams (s : State) (node : Fin 32) : State :=
  s.eachStream fun i c =>
    if c.config.node = node ∧ c.state = .suspended then (c.restarted .active, c.run.releaseFor i .restart) else (c, [])

/-- The node has reported a restart: each ACTIVE stream of the node is restarted (R77). -/
def State.restartStreams (s : State) (node : Fin 32) : State :=
  s.eachStream fun i c =>
    if c.config.node = node ∧ c.state = .active then (c.restarted .active, c.run.releaseFor i .restart) else (c, [])

/-- The node has been set again: each ACTIVE and each SUSPENDED stream of the node is restarted and is ACTIVE (R77). -/
def State.resetStreams (s : State) (node : Fin 32) : State :=
  s.eachStream fun i c =>
    if c.config.node = node ∧ c.state ≠ .idle then (c.restarted .active, c.run.releaseFor i .restart) else (c, [])

/-- FLUSH: every stream's running state cleared without entry, a SUSPENDED stream ACTIVE (R67). -/
def StreamCtx.flush (c : StreamCtx) : StreamCtx := c.restarted (if c.state = .suspended then .active else c.state)

/-! ## The boundary in the Stream Engine (R81, R122 to R124) -/

/-- The stale check of an ACTIVE stream at a boundary (R81). -/
def StreamRun.staleCheck (r : StreamRun) (i : Fin 64) (c : StreamConfig) : StreamRun × List Effect :=
  if c.staleLimit = 0 then (r, [])
  else
    let n := bumpTo 255 r.cyclesSince
    if n = c.staleLimit ∧ r.stale = false then
      ({ r with cyclesSince := n, stale := true }, [.add (.stale i r.elapsed), .raise .stale])
    else ({ r with cyclesSince := n }, [])

/-- The integrator's part of a boundary that ends cycle `ended` (R122, R123). -/
def StreamRun.windowBoundary (r : StreamRun) (i : Fin 64) (c : StreamConfig) (ended : Word16) : StreamRun × List Effect :=
  match c.integrator with
  | .off => (r, [])
  | .count _ _ => if r.waiting then ({ r with waiting := false }.emptyWindow, []) else (r, [])
  | .cycle => (r.emptyWindow, [.add (r.summary i c true ended)])

/-- A boundary at one stream: an ACTIVE stream makes the stale check and then the integrator's part (R124). -/
def StreamCtx.boundary (c : StreamCtx) (i : Fin 64) (ended : Word16) : StreamCtx × List Effect :=
  if c.state = .active then
    let (r, first) := c.run.staleCheck i c.config
    let (r, second) := r.windowBoundary i c.config ended
    ({ c with run := r }, first ++ second)
  else (c, [])

end Sys2Proof.Machine
end

