-- ==== Sys2Proof/Machine/Nodes.lean ====
section
/-! DEFINITION. The Link Supervisor (chapters 1 and 9): the handling of a valid reply in its five stages, of a failed
exchange, of the DOWN transition, and of the downlink slot and its outcomes. -/

namespace Sys2Proof.Machine

/-- A node entry as NODE SET gives it (R17). -/
def NodeEntry.fresh (address : Byte) : NodeEntry where
  address := address
  state := .unknown
  expectRx := false
  sendTx := false
  retryCount := 0
  holdCount := 0
  held := false
  resync := none
  probeCountdown := 0
  slot := none
  counters := ⟨0, 0, 0, 0, 0, 0, 0⟩

/-- A protocol error: the counter is incremented and PROTO raised (R10, R11, R158). -/
def State.protocolError (s : State) (i : Fin 32) : State :=
  (s.modifyNode i (·.tally fun c => { c with protocolErrors := bump c.protocolErrors })).raise .proto

/-! ## Outcomes of a payload (Table 9-3) -/

/-- The DELIVERY entry of a payload that leaves its slot, and the DELIVERY flag for the outcomes other than DELIVERED and
LATE (R161, R162). -/
def deliveryEffects (i : Fin 32) (p : DownPayload) (outcome : DeliveryOutcome) : List Effect :=
  .add (.delivery i p.tag outcome p.attempts) ::
    (match outcome with
    | .delivered | .late => []
    | .expired | .refused | .nodeDown | .cancelled => [.raise .delivery])

/-- The slot emptied; with `uncertain`, Resync is set and LateTag takes the payload's Tag, and otherwise Resync keeps its
standing (Table 9-3). -/
def NodeEntry.emptySlot (e : NodeEntry) (p : DownPayload) (uncertain : Bool) : NodeEntry :=
  { e with slot := none, resync := if uncertain then some p.tag else e.resync }

/-- A payload resolved with an outcome (Table 9-3). -/
def State.resolve (s : State) (i : Fin 32) (p : DownPayload) (outcome : DeliveryOutcome) (uncertain : Bool) : State :=
  (s.modifyNode i (·.emptySlot p uncertain)).emit (deliveryEffects i p outcome)

/-! ## Stage 1: liveness (R7) -/

/-- The NODE entry of a valid reply (Table 1-3). -/
def livenessEntry (before : NodeState) (f : Bool) : Option UpReason :=
  match before with
  | .unknown => some .first
  | .up | .suspect => if f then some .restart else none
  | .down => some .recovered

/-- Stage 1: RetryCount 0, State UP, the NODE entry, and for a node that was DOWN the resume of its streams (R7). -/
def State.stageLiveness (s : State) (i : Fin 32) (before : NodeState) (f : Bool) : State :=
  let s := s.modifyNode i fun e => { e with state := .up, retryCount := 0 }
  let s := s.emit ((livenessEntry before f).toList.map fun reason => .add (.nodeUp i reason))
  if before = .down then s.resumeStreams i else s

/-! ## Stage 2: the restart indication (R8, R155) -/

/-- The sequence state a restart indication gives: ExpectRx 0, SendTx 0, Resync clear, a payload's Attempts 0 (R8, R155). -/
def NodeEntry.restartIndicated (e : NodeEntry) : NodeEntry :=
  { e with expectRx := false, sendTx := false, resync := none, slot := e.slot.map fun p => { p with attempts := 0 } }

/-- Stage 2: for F = 1, the sequence reset, and the restart of the streams unless stage 1 has restarted them (R8). -/
def State.stageRestart (s : State) (i : Fin 32) (before : NodeState) (f : Bool) : State :=
  if f then
    let s := s.modifyNode i NodeEntry.restartIndicated
    if before = .down then s else s.restartStreams i
  else s

/-! ## Stage 3: the hold record (R9) -/

/-- The hold record of a reply's kind (R9). -/
def NodeEntry.holdRecord (e : NodeEntry) (kind : ReplyKind) : NodeEntry :=
  match kind with
  | .hold =>
    { e with held := true, holdCount := bumpTo 255 e.holdCount }.tally fun c => { c with holds := bump c.holds }
  | .data _ _ | .idle => { e with held := false, holdCount := 0 }

/-! ## Stage 4: the A bit (R156 to R158, Table 9-1) -/

/-- A payload whose POLL this reply answers has been answered (R156). -/
def NodeEntry.answered (e : NodeEntry) (carried : Bool) : NodeEntry :=
  if carried then { e with slot := e.slot.map fun p => { p with lastAnswered := true } } else e

/-- A present slot whose payload the node has not taken (R157). -/
def State.notTaken (s : State) (i : Fin 32) (e : NodeEntry) (p : DownPayload) (kind : ReplyKind) : State :=
  if kind = .hold ∧ s.timer.timing.holdLimit ≤ e.holdCount then s.resolve i p .refused false
  else if p.attempts = s.timer.timing.deliverLimit ∧ p.lastAnswered = true then s.resolve i p .expired false
  else s

/-- The evaluation of the A bit, row by row of Table 9-1, on the entry as stage 3 and R156's first sentence left it. -/
def State.evaluateA (s : State) (i : Fin 32) (e : NodeEntry) (kind : ReplyKind) (a : Bool) : State :=
  match e.slot, e.resync with
  | some p, _ =>
    if a = e.sendTx then s.notTaken i e p kind
    else if 0 < p.attempts then
      (s.modifyNode i fun e => { e with slot := none, sendTx := !e.sendTx }).emit (deliveryEffects i p .delivered)
    else s.protocolError i
  | none, some lateTag =>
    if a = e.sendTx then s.modifyNode i fun e => { e with resync := none }
    else
      (s.modifyNode i fun e => { e with resync := none, sendTx := !e.sendTx }).emit
        [.add (.delivery i lateTag .late 0)]
  | none, none => if a = e.sendTx then s else s.protocolError i

/-- Stage 4 (R156 to R158). -/
def State.stageA (s : State) (i : Fin 32) (kind : ReplyKind) (a carried : Bool) : State :=
  let s := s.modifyNode i (·.answered carried)
  match s.nodes[i] with
  | some e => s.evaluateA i e kind a
  | none => s

/-! ## Stage 5: DATA (R10 to R12) -/

/-- The sequence check of a well-formed DATA reply: accepted and dispatched, or a duplicate (R12). -/
def State.sequenceCheck (s : State) (i : Fin 32) (sBit : Bool) (blocks : List Block) : State :=
  match s.nodes[i] with
  | none => s
  | some e =>
    if sBit = e.expectRx then
      blocks.foldl (fun s b => s.dispatch i b)
        (s.modifyNode i fun e =>
          { e with expectRx := !e.expectRx }.tally fun c => { c with accepted := bump c.accepted })
    else s.modifyNode i (·.tally fun c => { c with duplicates := bump c.duplicates })

/-- Stage 5, for a DATA reply: the well-formedness check (R10), the G check (R11) and the sequence check (R12). -/
def State.stageData (s : State) (i : Fin 32) (g sBit : Bool) (payload : List Byte) : State :=
  match blockList payload with
  | none =>
    let s := s.protocolError i
    if g then s else s.protocolError i
  | some blocks =>
    let s := if g then s else s.protocolError i
    s.sequenceCheck i sBit blocks

/-- A valid reply applied to the polled node's entry, in the stages of R6. -/
def State.validReply (s : State) (x : Exchange) (r : NodeReply) : State :=
  match s.nodes[x.node] with
  | none => s
  | some e =>
    let s := s.stageLiveness x.node e.state r.f
    let s := s.stageRestart x.node e.state r.f
    let s := s.modifyNode x.node (·.holdRecord r.kind)
    let s := s.stageA x.node r.kind r.a x.carried
    match r.kind with
    | .data sBit payload => s.stageData x.node x.g sBit payload
    | .idle | .hold => s

/-! ## Failed exchanges (R13 to R15, R159, R160) -/

/-- How an exchange failed (R5). -/
inductive Failure where
  | timeout
  | spoiled
  deriving DecidableEq, Repr

/-- The counter of a failed exchange (R13). -/
def NodeEntry.countFailure (e : NodeEntry) (how : Failure) : NodeEntry :=
  e.tally fun c => match how with
    | .timeout => { c with timeouts := bump c.timeouts }
    | .spoiled => { c with spoiled := bump c.spoiled }

/-- The DOWN transition in its five steps (R14, R160). -/
def State.goDown (s : State) (i : Fin 32) (e : NodeEntry) : State :=
  let s := s.modifyNode i fun e => { e with state := .down, probeCountdown := s.timer.timing.probeInterval }
  let s := s.emit [.add (.nodeDown i), .raise .node]
  let s := s.suspendStreams i
  match e.slot with
  | some p => s.resolve i p .nodeDown (0 < p.attempts)
  | none => s

/-- The payload of a failed exchange whose node did not go DOWN (R159): the failed last attempt expires it. -/
def State.failedAttempt (s : State) (i : Fin 32) (e : NodeEntry) (carried : Bool) : State :=
  match e.slot with
  | some p =>
    if carried ∧ p.attempts = s.timer.timing.deliverLimit then s.resolve i p .expired true else s
  | none => s

/-- The State of a node that failed an exchange below the limit (R13). -/
def NodeState.failed : NodeState → NodeState
  | .up | .suspect => .suspect
  | .unknown => .unknown
  | .down => .down

/-- A failed exchange applied to the polled node's entry: a failed probe counts and changes nothing else (R15); otherwise
RetryCount advances, and the node stays below the limit or goes DOWN (R13). -/
def State.failedExchange (s : State) (x : Exchange) (how : Failure) : State :=
  match s.nodes[x.node] with
  | none => s
  | some e =>
    let s := s.modifyNode x.node (·.countFailure how)
    if e.state = .down then s
    else
      let retry := min (e.retryCount + 1) s.timer.timing.retryLimit
      let s := s.modifyNode x.node fun e => { e with retryCount := retry }
      if retry < s.timer.timing.retryLimit then
        (s.modifyNode x.node fun e => { e with state := e.state.failed }).failedAttempt x.node e x.carried
      else s.goDown x.node e

/-! ## The forming of a POLL (R4, R39, R154) -/

/-- The payload that a POLL to the node carries: the slot's, unless Held is set (R154). -/
def NodeEntry.attached (e : NodeEntry) : Option DownPayload := if e.held then none else e.slot

/-- The bytes of the POLL to a node, for the G bit that the Throttled mark gives (R39, R154). -/
def NodeEntry.poll (e : NodeEntry) (g : Bool) : List Byte :=
  pollFrame e.address e.sendTx e.expectRx g
    (match e.attached with
    | some p => p.payload
    | none => [])

/-- The entry when the Field Port begins to send its POLL: Polls counts it, and a carried payload's attempt begins (R4,
R154). -/
def NodeEntry.polled (e : NodeEntry) : NodeEntry :=
  let slot := if e.attached.isSome then
      e.slot.map fun p => { p with attempts := p.attempts + 1, lastAnswered := false }
    else e.slot
  { e with slot := slot }.tally fun c => { c with polls := bump c.polls }

/-- A POLL formed and begun: the exchange is in flight (R4, R39, R50). -/
def State.beginPoll (s : State) (i : Fin 32) (e : NodeEntry) (probe : Bool) : State :=
  let g := !s.queue.throttled
  { s with port := { s.port with
      state := .sending { beacon := false, bytes := e.poll g }
      exchange := some { node := i, g := g, carried := e.attached.isSome, probe := probe }
      fldDe := true } }.modifyNode i NodeEntry.polled

/-- The slots from a position on, examined in order: FREE entries and DOWN entries that are no probe poll are skipped
(R37, R38). Answers the position reached and, when a slot polls, its node index and whether the POLL is a probe. -/
def examineSlots (nodes : Vector (Option NodeEntry) 32) (active : List (Fin 32)) :
    Nat → List (Fin 32) → Nat × Option (Fin 32 × Bool)
  | pos, [] => (pos, none)
  | pos, i :: rest =>
    match nodes[i] with
    | none => examineSlots nodes active (pos + 1) rest
    | some e =>
      if e.state = .down then
        if e.probeCountdown = 0 ∧ i ∉ active.take pos then (pos, some (i, true))
        else examineSlots nodes active (pos + 1) rest
      else (pos, some (i, false))

end Sys2Proof.Machine
end

