-- ==== Sys2Proof/Machine/Line.lean ====
section
/-! DEFINITION. The field line (chapter 3): the waveform of a frame, the classes of spacings, the start delimiter, the
decoding of a reply, and the Line Calibrator. -/

namespace Sys2Proof.Machine

/-! ## The waveform of a frame (R47) -/

/-- The transitions of a series of bits, from a bit's middle whose transition was `prev`: between equal bits the line also
changes at the bit boundary (R47). Each bit occupies `fieldDivide` reference periods. -/
def bitSpacings (fieldDivide : Nat) : Bool → List Bool → List Spacing
  | _, [] => []
  | prev, b :: rest =>
    (if b = prev then [{ len := fieldDivide / 2, rise := !b }, { len := fieldDivide / 2, rise := b }]
     else [{ len := fieldDivide, rise := b }]) ++ bitSpacings fieldDivide b rest

/-- The spacings of a frame's bytes from the start of the first bit of ADDR on (R47): half a bit period to the first
bit's middle, and then bit by bit. -/
def frameSpacings (fieldDivide : Nat) (bytes : List Byte) : List Spacing :=
  match bytes.flatMap byteBits with
  | [] => []
  | b :: rest => { len := fieldDivide / 2, rise := b } :: bitSpacings fieldDivide b rest

/-- The two spacings between the three transitions of a start delimiter, one and a half bit periods each (R47). The block
before them is raised, and the next is lowered (Figure 3-1). -/
def delimiterSpacings (fieldDivide : Nat) : List Spacing :=
  [{ len := fieldDivide + fieldDivide / 2, rise := false }, { len := fieldDivide + fieldDivide / 2, rise := true }]

/-- What the part drives on FLD_D: the delimiter and the frame while SENDING, nothing otherwise (R47). -/
def State.fieldDrive (s : State) : List Spacing :=
  match s.port.state with
  | .sending frame =>
    delimiterSpacings s.timer.timing.fieldDivide ++ frameSpacings s.timer.timing.fieldDivide frame.bytes
  | .idle | .awaiting _ | .receiving _ => []

/-! ## Classes of spacings (R48) -/

/-- The classes of a spacing (R48). -/
inductive SpacingClass where
  | half
  | full
  | violation
  deriving DecidableEq, Repr

/-- The class of a spacing under the threshold in use (R48). -/
def classify (threshold fieldDivide len : Nat) : SpacingClass :=
  if len < threshold then .half
  else if len < threshold + fieldDivide / 2 then .full
  else .violation

/-- Line silence: 3·FieldDivide reference periods without a transition (R48). -/
def silent (fieldDivide len : Nat) : Bool := 3 * fieldDivide ≤ len

/-! ## The start delimiter (R48, R52) -/

/-- The spacings measured in AWAITING: two consecutive violation-class spacings complete a start delimiter, and silence is
no spacing of any class. Answers the count that stands, or the spacings after the delimiter. -/
def findDelimiter (threshold fieldDivide : Nat) : Nat → List Spacing → Nat ⊕ List Spacing
  | n, [] => .inl n
  | n, sp :: rest =>
    if silent fieldDivide sp.len then findDelimiter threshold fieldDivide 0 rest
    else match classify threshold fieldDivide sp.len with
      | .violation => if 1 ≤ n then .inr rest else findDelimiter threshold fieldDivide (n + 1) rest
      | .half | .full => findDelimiter threshold fieldDivide 0 rest

/-! ## Decoding a reply (R48, R53) -/

/-- How a reception stands after a spacing: it goes on, or it ended with a complete frame, or it ended otherwise and the
reply is spoiled (R53). -/
inductive Hearing where
  | more (rx : Reception)
  | complete (bytes : List Byte)
  | spoiled
  deriving DecidableEq, Repr

/-- The receiver at the start of the first bit of ADDR (R52). -/
def Reception.start : Reception := { atMiddle := false, bits := [], bytes := [] }

/-- LEN of the frame being received, once its four header bytes are complete. -/
def announcedLength : List Byte → Option Nat
  | _ :: _ :: l1 :: l0 :: _ => some (word16 l1 l0).toNat
  | _ => none

/-- The frame after a byte is complete: ended when LEN is above 600, or when the second CRC byte is complete (R53). -/
def afterByte (bytes : List Byte) : Hearing :=
  match announcedLength bytes with
  | none => .more { atMiddle := true, bits := [], bytes := bytes }
  | some len =>
    if Config.fieldPayload < len then .spoiled
    else if bytes.length = len + 6 then .complete bytes
    else .more { atMiddle := true, bits := [], bytes := bytes }

/-- An arrival at a bit's middle decodes one bit from the direction of the transition (R48). -/
def Reception.bit (rx : Reception) (b : Bool) : Hearing :=
  if rx.bits.length = 7 then afterByte (rx.bytes ++ [byteOfBits (rx.bits ++ [b])])
  else .more { rx with atMiddle := true, bits := rx.bits ++ [b] }

/-- One spacing of a reply, by the bit structure of R48. -/
def Reception.hear (rx : Reception) (threshold fieldDivide : Nat) (sp : Spacing) : Hearing :=
  match classify threshold fieldDivide sp.len, rx.atMiddle with
  | .half, false => rx.bit sp.rise
  | .half, true => .more { rx with atMiddle := false }
  | .full, true => rx.bit sp.rise
  | .full, false => .spoiled
  | .violation, _ => .spoiled

/-- What the receiver made of a series of spacings: the spacings measured, for the calibration window, and how the
reception stands. -/
structure Heard where
  measured : List Nat
  result : Hearing
  deriving DecidableEq, Repr

/-- A series of spacings heard in RECEIVING up to the end of reception; silence ends it without a spacing (R53, R58). -/
def hearReply (threshold fieldDivide : Nat) : Reception → List Spacing → Heard
  | rx, [] => { measured := [], result := .more rx }
  | rx, sp :: rest =>
    if silent fieldDivide sp.len then { measured := [], result := .spoiled }
    else match rx.hear threshold fieldDivide sp with
      | .more rx' =>
        let h := hearReply threshold fieldDivide rx' rest
        { measured := sp.len :: h.measured, result := h.result }
      | .complete bytes => { measured := [sp.len], result := .complete bytes }
      | .spoiled => { measured := [sp.len], result := .spoiled }

/-! ## The Line Calibrator (R57 to R61) -/

/-- The nominal threshold, 3·FieldDivide/4 (R57). -/
def nominalThreshold (fieldDivide : Nat) : Nat := 3 * fieldDivide / 4

/-- A bin marked as occupied: 1..63 only (R58). -/
def markBin (bins : BitVec 64) (len : Nat) : BitVec 64 :=
  if 1 ≤ len ∧ len ≤ 63 then bins ||| BitVec.ofNat 64 (2 ^ len) else bins

/-- The lowest bin B that is empty while some bin below and some bin above are occupied (R59). -/
def lowestGap (bins : BitVec 64) : Option Nat :=
  (List.range 64).find? fun b =>
    !bins.getLsbD b && (List.range b).any (fun c => bins.getLsbD c) &&
      (List.range 64).any fun c => b < c && bins.getLsbD c

/-- The window's record kept and a new empty window begun (R59). -/
def Calibrator.newWindow (c : Calibrator) : Calibrator :=
  { c with lastBins := c.bins, lastLong := c.longCount, bins := 0, longCount := 0, spacingCount := 0 }

/-- Success: B becomes the next threshold and the line is LOCKED (R59). -/
def Calibrator.succeed (c : Calibrator) (b : Nat) : Calibrator :=
  { c with nextThreshold := b, line := .locked, consecutiveFails := 0, lastFail := false }

/-- Failure: it is counted, and from the second in a row on the line is SEEKING at the nominal threshold (R59). -/
def Calibrator.fail (c : Calibrator) (fieldDivide : Nat) : Calibrator :=
  let n := bumpTo 255 c.consecutiveFails
  let c := { c with lastFail := true, fails := bump c.fails, consecutiveFails := n }
  if 2 ≤ n then { c with line := .seeking, nextThreshold := nominalThreshold fieldDivide } else c

/-- A completed window searched (R59); the Boolean says that it failed, which raises LINE. -/
def Calibrator.complete (c : Calibrator) (fieldDivide : Nat) : Calibrator × Bool :=
  match lowestGap c.bins with
  | some b => if b ≤ fieldDivide then ((c.succeed b).newWindow, false) else ((c.fail fieldDivide).newWindow, true)
  | none => ((c.fail fieldDivide).newWindow, true)

/-- A spacing added to the window; the 256th completes it (R58). -/
def Calibrator.measure (c : Calibrator) (fieldDivide len : Nat) : Calibrator × Bool :=
  let c := { c with
    bins := markBin c.bins len
    longCount := if 64 ≤ len then c.longCount + 1 else c.longCount
    spacingCount := c.spacingCount + 1 }
  if Config.windowSpacings ≤ c.spacingCount then c.complete fieldDivide else (c, false)

/-- The starting state of the Line Calibrator for a FieldDivide (R61). -/
def Calibrator.initial (fieldDivide : Nat) : Calibrator :=
  { line := .seeking, nextThreshold := nominalThreshold fieldDivide, thresholdInUse := nominalThreshold fieldDivide,
    bins := 0, longCount := 0, spacingCount := 0, lastBins := 0, lastLong := 0, lastFail := false, consecutiveFails := 0,
    fails := 0 }

/-- What a TIMING that changes FieldDivide does to the Line Calibrator (R60). -/
def Calibrator.newFieldDivide (c : Calibrator) (fieldDivide : Nat) : Calibrator :=
  { c with line := .seeking, nextThreshold := nominalThreshold fieldDivide,
           thresholdInUse := nominalThreshold fieldDivide, bins := 0, longCount := 0, spacingCount := 0,
           consecutiveFails := 0 }

/-- A spacing measured while RECEIVING; a window that fails with it raises LINE, in an event of its own (R58, R59). -/
def State.measure (s : State) (len : Nat) : State :=
  match s.cal.measure s.timer.timing.fieldDivide len with
  | (c, false) => { s with cal := c }
  | (c, true) => s.settle ({ s with cal := c }.raise .line)

/-! ## Reception (R53 to R55) -/

/-- A failed exchange ends (R13, R55). -/
def State.fail (s : State) (how : Failure) : State :=
  match s.port.exchange with
  | some x => (s.failedExchange x how).endExchange x
  | none => s.portToIdle

/-- A complete frame judged and its outcome applied; the exchange ends (R54, R55). -/
def State.judge (s : State) (bytes : List Byte) : State :=
  match s.port.exchange with
  | none => s.portToIdle
  | some x =>
    match s.nodes[x.node] with
    | none => (s.failedExchange x .spoiled).endExchange x
    | some e =>
      match judgeFrame e.address bytes with
      | some r => (s.validReply x r).endExchange x
      | none => (s.failedExchange x .spoiled).endExchange x

/-- How a reception stands, taken: it goes on, or the exchange ends with its outcome, as one event (R53). -/
def State.conclude (s : State) : Hearing → State
  | .more rx => { s with port := { s.port with state := .receiving rx } }
  | .complete bytes => s.settle (s.judge bytes)
  | .spoiled => s.settle (s.fail .spoiled)

/-- Spacings heard in RECEIVING: each measured one is added to the calibration window, and then the reception's standing is
taken (R53, R58). -/
def State.hear (s : State) (rx : Reception) (sps : List Spacing) : State :=
  let h := hearReply s.cal.thresholdInUse s.timer.timing.fieldDivide rx sps
  (h.measured.foldl State.measure s).conclude h.result

/-- Spacings that arrive in AWAITING with `n` violation-class spacings before them (R52): a completed start delimiter stops the
reply timer and begins the reception, to which any further spacings belong. -/
def State.await (s : State) (n : Nat) (sps : List Spacing) : State :=
  match findDelimiter s.cal.thresholdInUse s.timer.timing.fieldDivide n sps with
  | .inl n' => { s with port := { s.port with state := .awaiting n' } }
  | .inr rest =>
    { s with port := { s.port with state := .receiving Reception.start, replyTimer := none } }.hear Reception.start rest

/-- Spacings measured on the field line, by the port's state: in AWAITING a start delimiter is looked for (R52), in RECEIVING
a reply is decoded (R53), and in any other state the receiver does not listen (R55). -/
def State.listen (s : State) (sps : List Spacing) : State :=
  match s.port.state with
  | .awaiting n => s.await n sps
  | .receiving rx => s.hear rx sps
  | .idle | .sending _ => s

/-- Line silence (R48): it ends a reception, whose reply is spoiled as truncated (R53); in AWAITING it is no spacing, so the
spacings before and after it are not consecutive. -/
def State.silence (s : State) : State :=
  match s.port.state with
  | .awaiting _ => { s with port := { s.port with state := .awaiting 0 } }
  | .receiving _ => s.settle (s.fail .spoiled)
  | .idle | .sending _ => s

end Sys2Proof.Machine
end

