-- ==== Sys2Proof/Machine/ClockEvents.lean ====
section
/-! DEFINITION. Master reset, the tick, and the cycle boundary in the three blocks that take it (R177, R24, R27, R124,
R137). -/

namespace Sys2Proof.Machine

/-- The part as master reset begins to hold it: both links and ALERT_N released, transmissions cut off, the exchange
abandoned without an outcome (R177, R145, R56). -/
def State.hold (s : State) (cause : ResetCause) : State :=
  { s with
    holding := some cause
    port := FieldPort.abandoned
    transmission := none
    tied := []
    status := { s.status with alertN := false } }

/-- MASTER_RESET (R177). An assertion of RESET_N during a reset begins no other one; a loss of power does. -/
def execMasterReset (cause : ResetCause) (s : State) : Host.Outcome State Fault Refusal :=
  .next (match s.holding, cause with
    | some _, .pin => s
    | _, _ => s.hold cause)

/-- MASTER_RESET_END (R177): every piece of state takes its master reset value, the straps are sampled and ResetCause is
set. Without a reset in progress it does not occur. -/
def execMasterResetEnd (rate1 rate0 : Bool) (s : State) : Host.Outcome State Fault Refusal :=
  .next (match s.holding with
    | some cause => { State.masterReset cause rate1 rate0 with freeCount := s.freeCount, pending := s.pending }
    | none => s)

/-- TICK (R24): the tick divider completes the tick in progress. -/
def execTick (s : State) : Host.Outcome State Fault Refusal := event s State.tick

/-- CYCLE_BOUNDARY (R25, R27): it occurs in RUNNING once the cycle counter has reached CyclePeriod, from which the counter
goes on at 0. -/
def execCycleBoundary (s : State) : Host.Outcome State Fault Refusal :=
  event s fun s =>
    if s.timer.engine = .running ∧ s.timer.timing.cyclePeriod ≤ s.timer.cycleCounter then
      { s with timer := { s.timer with
          cycleCounter := s.timer.cycleCounter - s.timer.timing.cyclePeriod } }.boundary
        (s.sched.active.length - s.sched.position)
    else s

/-- The Stream Engine takes the oldest boundary made known to it, over its ACTIVE streams in ascending stream number
(R124). Without one nothing happens. -/
def State.streamEngineBoundary (s : State) : State :=
  match s.notices.streamEngine with
  | ended :: rest =>
    { s with notices := { s.notices with streamEngine := rest } }.eachStream fun i c => c.boundary i ended
  | [] => s

/-- The Report Assembler takes a boundary made known to it: the open frame, if there is one, is closed with the BOUNDARY flag
(R137). Without a boundary nothing happens. -/
def State.assemblerBoundary (s : State) : State :=
  match s.notices.assembler with
  | n + 1 =>
    { s with
      notices := { s.notices with assembler := n }
      queue := s.queue.close fun c => { c with boundary := true } }
  | 0 => s

/-- STREAM_ENGINE_BOUNDARY (R124). -/
def execStreamEngineBoundary (s : State) : Host.Outcome State Fault Refusal := event s State.streamEngineBoundary

/-- BOUNDARY_FRAME_CLOSE (R137). -/
def execBoundaryFrameClose (s : State) : Host.Outcome State Fault Refusal := event s State.assemblerBoundary

/-- One of the reactions to a boundary that are still to come, as an event of its own; when one waits in each block, the first
is a free choice, since they are not ordered against one another (R27, log entry 18). -/
def State.takeNotice (s : State) : State :=
  match s.notices.streamEngine, s.notices.assembler with
  | [], _ => s.settle s.assemblerBoundary
  | _ :: _, 0 => s.settle s.streamEngineBoundary
  | _ :: _, _ + 1 =>
    let drawn := s.drawIf true
    drawn.settle (if Config.streamEngineFirst s.freeCount then drawn.streamEngineBoundary else drawn.assemblerBoundary)

/-- As many reactions to a boundary as given, one after another. -/
def State.reactions : Nat → State → State
  | 0, s => s
  | n + 1, s => State.reactions n s.takeNotice

/-- Every reaction to a boundary that is still to come. -/
def State.takeNotices (s : State) : State := s.reactions (s.notices.streamEngine.length + s.notices.assembler)

end Sys2Proof.Machine
end

