-- ==== Sys2Proof/Machine/FieldEvents.lean ====
section
/-! DEFINITION. The events of the field line: beacons, the slot walk, exchanges and their ends (chapters 2 and 3). An event
whose condition does not stand does not occur, and leaves the state as it is (log entry 4). Spacings may hold several events:
the end of a calibration window, and the outcome of the exchange. -/

namespace Sys2Proof.Machine

/-- BEACON_BEGIN (R36, R51): with the port ready and the engine RUNNING, the waiting beacon's transmission begins. -/
def execBeaconBegin (s : State) : Host.Outcome State Fault Refusal :=
  event s fun s =>
    match s.sched.beacon with
    | some cycle =>
      if s.port.ready ∧ s.timer.engine = .running then
        { s with
          sched := { s.sched with beacon := none }
          port := { s.port with state := .sending { beacon := true, bytes := beaconFrame cycle }, fldDe := true } }
      else s
    | none => s

/-- BEACON_SENT (R51, R30): the port returns to IDLE and starts its turn gap, and a STOPPING engine becomes HALTED. -/
def execBeaconSent (s : State) : Host.Outcome State Fault Refusal :=
  event s fun s =>
    match s.port.state with
    | .sending frame => if frame.beacon then s.portToIdle.stopIfStopping else s
    | .idle | .awaiting _ | .receiving _ => s

/-- SLOT_EXAMINE (R37, R38): with the port ready, the engine RUNNING and no beacon waiting, the slots from the slot position
on are examined, and a POLL is begun for the one that is taken. -/
def execSlotExamine (s : State) : Host.Outcome State Fault Refusal :=
  event s fun s =>
    if s.port.ready ∧ s.timer.engine = .running ∧ s.sched.beacon = none then
      match examineSlots s.nodes s.sched.active s.sched.position (s.sched.active.drop s.sched.position) with
      | (pos, none) => { s with sched := { s.sched with position := pos } }
      | (pos, some (i, probe)) =>
        let s := { s with sched := { s.sched with position := pos + 1 } }
        match s.nodes[i] with
        | some e => s.beginPoll i e probe
        | none => s
    else s

/-- POLL_SENT (R50, R60): the port enters AWAITING, the reply timer starts, and NextThreshold becomes the threshold in
use. -/
def execPollSent (s : State) : Host.Outcome State Fault Refusal :=
  event s fun s =>
    match s.port.state with
    | .sending frame =>
      if frame.beacon then s
      else
        { s with
          port := { s.port with
            state := .awaiting 0, replyTimer := some s.timer.timing.replyTimeout, fldDe := false }
          cal := { s.cal with thresholdInUse := s.cal.nextThreshold } }
    | .idle | .awaiting _ | .receiving _ => s

/-- START_DELIMITER (R52): the spacings measured in AWAITING; the transition that completes a start delimiter stops the
reply timer and the port enters RECEIVING. -/
def execStartDelimiter (spacings : List Spacing) (s : State) : Host.Outcome State Fault Refusal :=
  outsideReset s fun s => s.listen spacings

/-- REPLY_TIMEOUT (R52): in AWAITING with all ReplyTimeout ticks counted, the exchange ends in a timeout. -/
def execReplyTimeout (s : State) : Host.Outcome State Fault Refusal :=
  event s fun s =>
    match s.port.state with
    | .awaiting _ => if s.port.replyTimer = some 0 then s.fail .timeout else s
    | .idle | .sending _ | .receiving _ => s

/-- REPLY_COMPLETE (R53, R54): the spacings up to the last CRC bit, with which the frame is complete and is judged. -/
def execReplyComplete (spacings : List Spacing) (s : State) : Host.Outcome State Fault Refusal :=
  outsideReset s fun s => s.listen spacings

/-- RECEPTION_ABORT (R53): the spacings up to a LEN above 600 or a code violation, with which the reply is spoiled. -/
def execReceptionAbort (spacings : List Spacing) (s : State) : Host.Outcome State Fault Refusal :=
  outsideReset s fun s => s.listen spacings

/-- LINE_SILENCE (R53): after the spacings heard, silence. -/
def execLineSilence (spacings : List Spacing) (s : State) : Host.Outcome State Fault Refusal :=
  outsideReset s fun s => (s.listen spacings).silence

/-- TURN_GAP_END (R49): the turn-gap timer, with all its ticks counted, stops. -/
def execTurnGapEnd (s : State) : Host.Outcome State Fault Refusal :=
  event s fun s => if s.port.turnGap = some 0 then { s with port := { s.port with turnGap := none } } else s

/-- CALIBRATION_WINDOW_COMPLETE (R58, R59): the spacings of a reception up to the 256th of the window, which is searched. -/
def execCalibrationWindowComplete (spacings : List Spacing) (s : State) : Host.Outcome State Fault Refusal :=
  outsideReset s fun s => s.listen spacings

end Sys2Proof.Machine
end

