-- ==== Sys2Proof/Machine/SystemCommands.lean ====
section
/-! DEFINITION. The host's commands on the part as a whole (chapter 10): IDENTIFY, STATUS, ALERT MASK, FLUSH. Each has its
rule (a `State → Answer`) and its step. -/

namespace Sys2Proof.Machine

/-- The rule of IDENTIFY (R176, Table 11-5). -/
def identify (s : State) : Answer where
  state := s
  status := .ok
  results := be16 Config.vendorCode ++ be16 Config.partCode ++ [Config.revision, 32, 64, nat8 Config.scheduleSlots] ++
    nat16 Config.queueBytes ++ [nat8 Config.queueFrames, resetCauseCode s.status.resetCause] ++ be16 s.status.flushCount

/-- IDENTIFY (R176). -/
def execIdentify (ref : Word16) (s : State) : Host.Outcome State Fault Refusal := command 0x01 ref identify s

/-- STATUS's results, before any clearing (R174, Table 11-5). -/
def State.statusBytes (s : State) : List Byte :=
  flagBytes s.status.flags ++ [mark s.status.armed] ++ flagBytes s.status.mask ++ [s.timer.engine.code] ++
    be16 s.timer.cycleNumber ++ nat16 s.queue.occupancy ++ [s.queue.marks] ++ be16 s.sched.overrunCount ++
    be16 s.badFrames ++ be16 s.droppedCommands

/-- The rule of STATUS in its three steps (R174). -/
def status (clearSet : Word16) (s : State) : Answer where
  state := { s with status := s.status.clear (flagSet clearSet) s.timer.cycleNumber }
  status := .ok
  results := s.statusBytes

/-- STATUS (R174). -/
def execStatus (ref clearSet : Word16) (s : State) : Host.Outcome State Fault Refusal :=
  command 0x02 ref (status clearSet) s

/-- The rule of ALERT MASK (R175): the results stand as after the command. -/
def alertMask (mask : Word16) (s : State) : Answer :=
  let u := s.status.setMask (flagSet mask) s.timer.cycleNumber
  { state := { s with status := u }, status := .ok,
    results := flagBytes u.mask ++ flagBytes u.flags ++ [mark u.armed] }

/-- ALERT MASK (R175). -/
def execAlertMask (ref mask : Word16) (s : State) : Host.Outcome State Fault Refusal :=
  command 0x03 ref (alertMask mask) s

/-- A node entry after FLUSH: its Address kept, the rest at its starting value (R2). -/
def NodeEntry.flush (e : NodeEntry) : NodeEntry := NodeEntry.fresh e.address

/-- The part after FLUSH's seven effects (R178). -/
def State.flush (s : State) : State :=
  { s with
    timer := { s.timer with engine := .halted, cycleCounter := 0, cycleNumber := 0 }
    sched := { s.sched with beacon := none, position := 0, overrunCount := 0 }
    notices := { streamEngine := [], assembler := 0 }
    port := FieldPort.abandoned
    cal := Calibrator.initial s.timer.timing.fieldDivide
    nodes := s.nodes.map fun e => e.map NodeEntry.flush
    unclaimed := Vector.replicate 32 0
    streams := s.streams.map fun c => c.map StreamCtx.flush
    queue := s.queue.flush
    status := s.status.flush }

/-- The rule of FLUSH (R178). -/
def flush (s : State) : Answer where
  state := s.flush
  status := .ok
  results := be16 s.flush.status.flushCount

/-- FLUSH (R178). -/
def execFlush (ref : Word16) (s : State) : Host.Outcome State Fault Refusal := command 0x04 ref flush s

end Sys2Proof.Machine
end

