-- ==== Sys2Proof/Machine/CycleCommands.lean ====
section
/-! DEFINITION. The host's commands on the cycle, the schedules and the line (chapters 2 and 3): TIMING, RUN, HALT,
SCHEDULE LOAD, SCHEDULE READ, LINE READ. -/

namespace Sys2Proof.Machine

/-- A count that depends on a limit, when the limit becomes `new`: from `bound` on it is set to `lowered`, and raising the
limit leaves it as it stands (R42). -/
def underLimit (old new bound lowered count : Nat) : Nat := if new ≤ old ∧ bound ≤ count then lowered else count

/-- A node entry when the limits `old` become those of `t`: RetryCount above its limit is set to it, HoldCount and Attempts
at or above theirs are set to one less (R42). -/
def NodeEntry.limited (old t : Timing) (e : NodeEntry) : NodeEntry :=
  { e with
    retryCount := underLimit old.retryLimit t.retryLimit (t.retryLimit + 1) t.retryLimit e.retryCount
    holdCount := underLimit old.holdLimit t.holdLimit t.holdLimit (t.holdLimit - 1) e.holdCount
    slot := e.slot.map fun p => { p with
      attempts := underLimit old.deliverLimit t.deliverLimit t.deliverLimit (t.deliverLimit - 1) p.attempts } }

/-- An accepted TIMING: the parameters taken together, the tick divider restarted, dependent state adjusted (R41, R42). -/
def State.setTiming (s : State) (t : Timing) : State :=
  { s with
    timer := { s.timer with timing := t, divider := 0 }
    nodes := s.nodes.map fun e => e.map (NodeEntry.limited s.timer.timing t)
    cal := if t.fieldDivide = s.timer.timing.fieldDivide then s.cal else s.cal.newFieldDivide t.fieldDivide }

/-- The rule of TIMING (R41): in every case the reply carries the nine values in force after the command. -/
def timing (args : TimingArgs) (s : State) : Answer :=
  if s.timer.engine ≠ .halted then { state := s, status := .state, results := s.timer.timing.bytes }
  else match parseTiming args with
    | none => { state := s, status := .range, results := s.timer.timing.bytes }
    | some t => { state := s.setTiming t, status := .ok, results := t.bytes }

/-- TIMING (R41). -/
def execTiming (ref : Word16) (args : TimingArgs) (s : State) : Host.Outcome State Fault Refusal :=
  command 0x10 ref (timing args) s

/-- The engine started: RUNNING, the cycle counter 0, and a cycle boundary that counts no slot as overrun (R29). The other
blocks react to this boundary in events of their own (R27), here after RUN's REPLY is placed: whether they do so before it is
left open, and this order is the model's choice (log entry 21, DESIGN CHOICE). -/
def State.start (s : State) : State :=
  { s with timer := { s.timer with engine := .running, cycleCounter := 0 } }.boundary 0

/-- The rule of RUN (R29). -/
def run (s : State) : Answer :=
  match s.timer.engine with
  | .halted => { state := s.start, status := .ok, results := be16 s.start.timer.cycleNumber }
  | .running => { state := s, status := .ok, results := be16 s.timer.cycleNumber }
  | .stopping => { state := s, status := .busy, results := be16 s.timer.cycleNumber }

/-- RUN (R29). -/
def execRun (ref : Word16) (s : State) : Host.Outcome State Fault Refusal := command 0x11 ref run s

/-- A RUNNING engine stopped: the waiting beacon is discarded, and the engine is STOPPING while the Field Port works, or
HALTED at once (R30). -/
def State.stop (s : State) : State :=
  let s := { s with sched := { s.sched with beacon := none } }
  if s.port.state = .idle then s.enterHalted else { s with timer := { s.timer with engine := .stopping } }

/-- The rule of HALT (R30): in RUNNING a boundary before it takes all its effects first (R45). -/
def halt (s : State) : Answer :=
  if s.timer.engine = .running then
    { state := s.takeNotices.stop, status := .ok, results := [s.takeNotices.stop.timer.engine.code],
      since := some s.takeNotices }
  else { state := s, status := .ok, results := [s.timer.engine.code] }

/-- HALT (R30). -/
def execHalt (ref : Word16) (s : State) : Host.Outcome State Fault Refusal := command 0x12 ref halt s

/-- The node indices that argument bytes name; `none` when one is above 31 (R33). -/
def slotIndices : List Byte → Option (List (Fin 32))
  | [] => some []
  | b :: rest =>
    match nodeIndex b, slotIndices rest with
    | some i, some is => some (i :: is)
    | _, _ => none

/-- The rule of SCHEDULE LOAD (R33). -/
def scheduleLoad (count : Byte) (slots : List Byte) (s : State) : Answer :=
  if slots.length ≠ count.toNat then refuse s .format
  else if Config.scheduleSlots < count.toNat then refuse s .range
  else match slotIndices slots with
    | none => refuse s .range
    | some list => { state := { s with sched := { s.sched with pending := some list } }, status := .ok, results := [] }

/-- SCHEDULE LOAD (R33). -/
def execScheduleLoad (ref : Word16) (count : Byte) (slots : List Byte) (s : State) : Host.Outcome State Fault Refusal :=
  command 0x13 ref (scheduleLoad count slots) s

/-- SCHEDULE READ's results: the slot count, position and engine state (reserved for the pending schedule), and the
indices (Table 11-5). -/
def scheduleBytes (list : List (Fin 32)) (position engine : Byte) : List Byte :=
  [nat8 list.length, position, engine] ++ list.map fun (i : Fin 32) => nat8 i

/-- The rule of SCHEDULE READ (R35). -/
def scheduleRead (selector : Byte) (s : State) : Answer :=
  if selector = 0 then
    { state := s, status := .ok,
      results := scheduleBytes s.sched.active (nat8 s.sched.position) s.timer.engine.code }
  else if selector = 1 then
    match s.sched.pending with
    | some list => { state := s, status := .ok, results := scheduleBytes list 0 0 }
    | none => refuse s .noent
  else refuse s .range

/-- SCHEDULE READ (R35). -/
def execScheduleRead (ref : Word16) (selector : Byte) (s : State) : Host.Outcome State Fault Refusal :=
  command 0x14 ref (scheduleRead selector) s

/-- The rule of LINE READ (R62, Table 11-5). -/
def lineRead (s : State) : Answer where
  state := s
  status := .ok
  results := [s.cal.line.code, nat8 s.cal.thresholdInUse, nat8 s.cal.nextThreshold,
      nat8 (nominalThreshold s.timer.timing.fieldDivide)] ++ binBytes s.cal.lastBins ++ nat16 s.cal.lastLong ++
    [nat8 s.cal.spacingCount, mark s.cal.lastFail, nat8 s.cal.consecutiveFails] ++ be16 s.cal.fails ++
    [s.port.state.code]

/-- LINE READ (R62). -/
def execLineRead (ref : Word16) (s : State) : Host.Outcome State Fault Refusal := command 0x18 ref lineRead s

end Sys2Proof.Machine
end

