-- ==== Sys2Proof/Machine/NodeCommands.lean ====
section
/-! DEFINITION. The host's commands on the node table and the downlink slots (chapters 1 and 9): NODE SET, NODE DELETE,
NODE READ, FORWARD, CANCEL. -/

namespace Sys2Proof.Machine

/-- An entry that an exchange or a payload occupies (R17, check 4; R19, check 4). -/
def State.nodeBusy (s : State) (i : Fin 32) (e : NodeEntry) : Bool := s.inFlight i || e.slot.isSome

/-- The effects of an accepted NODE SET: the fresh entry, its Unclaimed counter 0, and for an entry that was IN USE the
notice to its streams (R17, R18). -/
def State.setNode (s : State) (i : Fin 32) (address : Byte) : State :=
  let inUse := s.nodes[i].isSome
  let s := { s with nodes := s.nodes.set i (some (NodeEntry.fresh address)) }.setUnclaimed i 0
  if inUse then s.resetStreams i else s

/-- The rule of NODE SET, with its four checks in their order (R17). -/
def nodeSet (node address : Byte) (s : State) : Answer :=
  match nodeIndex node with
  | none => refuse s .range
  | some i =>
    if address.toNat < 1 ∨ 126 < address.toNat then refuse s .range
    else if s.addressTaken i address then refuse s .conflict
    else if s.nodes[i].any (s.nodeBusy i) then refuse s .busy
    else { state := s.setNode i address, status := .ok, results := [] }

/-- NODE SET (R17). -/
def execNodeSet (ref : Word16) (node address : Byte) (s : State) : Host.Outcome State Fault Refusal :=
  command 0x20 ref (nodeSet node address) s

/-- The rule of NODE DELETE, with its four checks in their order (R19). -/
def nodeDelete (node : Byte) (s : State) : Answer :=
  match nodeIndex node with
  | none => refuse s .range
  | some i =>
    match s.nodes[i] with
    | none => refuse s .noent
    | some e =>
      if s.nodeBound i then refuse s .conflict
      else if s.nodeBusy i e then refuse s .busy
      else { state := { s with nodes := s.nodes.set i none }, status := .ok, results := [] }

/-- NODE DELETE (R19). -/
def execNodeDelete (ref : Word16) (node : Byte) (s : State) : Host.Outcome State Fault Refusal :=
  command 0x21 ref (nodeDelete node) s

/-- What LateTag reads as: the held tag while Resync is set, and otherwise a free value (R20, log entry 2). -/
def State.lateTag (s : State) (e : NodeEntry) : Word16 := e.resync.getD (Config.lateTagUnset s.freeCount)

/-- The clear option of NODE READ: the seven counters and the Unclaimed counter set to 0 (R20). -/
def State.clearNode (s : State) (i : Fin 32) : State :=
  (s.modifyNode i (·.tally fun _ => ⟨0, 0, 0, 0, 0, 0, 0⟩)).setUnclaimed i 0

/-- The rule of NODE READ, with its three checks in their order (R20). -/
def nodeRead (node clear : Byte) (s : State) : Answer :=
  match nodeIndex node with
  | none => refuse s .range
  | some i =>
    match yesNo clear with
    | none => refuse s .range
    | some clear =>
      match s.nodes[i] with
      | none => refuse s .noent
      | some e =>
        let s' := if clear then s.clearNode i else s
        { state := s'.drawIf e.resync.isNone, status := .ok, results := e.bytes (s.lateTag e) s.unclaimed[i] }

/-- NODE READ (R20). -/
def execNodeRead (ref : Word16) (node clear : Byte) (s : State) : Host.Outcome State Fault Refusal :=
  command 0x22 ref (nodeRead node clear) s

/-- The rule of FORWARD, with its five checks in their order (R152). -/
def forward (node : Byte) (tag : Word16) (payload : List Byte) (s : State) : Answer :=
  match nodeIndex node with
  | none => refuse s .range
  | some i =>
    match s.nodes[i] with
    | none => refuse s .noent
    | some e =>
      if payload.length = 0 ∨ Config.payloadBytes < payload.length then refuse s .range
      else if e.state = .down then refuse s .state
      else if e.slot.isSome ∨ e.resync.isSome then refuse s .busy
      else
        { state := s.modifyNode i fun e =>
            { e with slot := some { tag := tag, payload := payload, attempts := 0, lastAnswered := false } }
          status := .ok
          results := [] }

/-- FORWARD (R152). -/
def execForward (ref : Word16) (node : Byte) (tag : Word16) (payload : List Byte) (s : State) :
    Host.Outcome State Fault Refusal :=
  command 0x50 ref (forward node tag payload) s

/-- The rule of CANCEL, with its three checks in their order (R153). -/
def cancel (node : Byte) (s : State) : Answer :=
  match nodeIndex node with
  | none => refuse s .range
  | some i =>
    match s.nodes[i] with
    | none => refuse s .noent
    | some e =>
      match e.slot with
      | none => refuse s .noent
      | some p =>
        { state := s.resolve i p .cancelled (0 < p.attempts), status := .ok
          results := be16 p.tag ++ [nat8 p.attempts] }

/-- CANCEL (R153). -/
def execCancel (ref : Word16) (node : Byte) (s : State) : Host.Outcome State Fault Refusal :=
  command 0x51 ref (cancel node) s

end Sys2Proof.Machine
end

