-- ==== Sys2Proof/Machine/StreamCommands.lean ====
section
/-! DEFINITION. The host's stream commands (section 4.3): STREAM SET, ENABLE, DISABLE, DELETE and READ. -/

namespace Sys2Proof.Machine

/-- The pair is held by a stream other than this one (R70, check 4). -/
def State.pairTaken (s : State) (i : Fin 64) (node : Fin 32) (tag : Fin 8) : Bool :=
  (List.finRange 64).any fun j => j != i && (match s.streams[j] with
    | some c => c.config.node == node && c.config.tag == tag
    | none => false)

/-- The stream is ACTIVE or SUSPENDED (R70, check 2). -/
def State.streamRunning (s : State) (i : Fin 64) : Bool :=
  match s.streams[i] with
  | some c => c.state != .idle
  | none => false

/-- A stream made IDLE with a configuration, its running state at the starting values (R70). -/
def StreamCtx.set (config : StreamConfig) : StreamCtx :=
  { state := .idle, config := config, run := StreamRun.fresh config }

/-- The rule of STREAM SET, with its five checks in their order (R70). -/
def streamSet (stream : Byte) (args : StreamArgs) (s : State) : Answer :=
  match streamIndex stream, nodeIndex args.node, tagIndex args.tag with
  | some i, some node, some tag =>
    if s.streamRunning i then refuse s .state
    else if s.nodes[node].isNone then refuse s .noent
    else if s.pairTaken i node tag then refuse s .conflict
    else match parseStream args node tag with
      | none => refuse s .range
      | some config => { state := s.setStream i (some (StreamCtx.set config)), status := .ok, results := [] }
  | _, _, _ => refuse s .range

/-- STREAM SET (R70). -/
def execStreamSet (ref : Word16) (stream : Byte) (args : StreamArgs) (s : State) : Host.Outcome State Fault Refusal :=
  command 0x30 ref (streamSet stream args) s

/-- The node's State is DOWN (R71). -/
def State.nodeDown (s : State) (i : Fin 32) : Bool :=
  match s.nodes[i] with
  | some e => e.state == .down
  | none => false

/-- The rule of STREAM ENABLE (R71). -/
def streamEnable (stream : Byte) (s : State) : Answer :=
  match streamIndex stream with
  | none => refuse s .range
  | some i =>
    match s.streams[i] with
    | none => refuse s .state
    | some c =>
      if c.state = .idle then
        let state : StreamState := if s.nodeDown c.config.node then .suspended else .active
        { state := s.setStream i (some (c.restarted state)), status := .ok, results := [state.code] }
      else refuse s .state

/-- STREAM ENABLE (R71). -/
def execStreamEnable (ref : Word16) (stream : Byte) (s : State) : Host.Outcome State Fault Refusal :=
  command 0x31 ref (streamEnable stream) s

/-- The rule of STREAM DISABLE (R72). -/
def streamDisable (stream : Byte) (s : State) : Answer :=
  match streamIndex stream with
  | none => refuse s .range
  | some i =>
    match s.streams[i] with
    | none => refuse s .state
    | some c =>
      if c.state = .idle then { state := s, status := .ok, results := [] }
      else
        { state := (s.setStream i (some (c.setAside .idle))).emit (c.run.releaseFor i .disable), status := .ok
          results := [] }

/-- STREAM DISABLE (R72). -/
def execStreamDisable (ref : Word16) (stream : Byte) (s : State) : Host.Outcome State Fault Refusal :=
  command 0x32 ref (streamDisable stream) s

/-- The rule of STREAM DELETE (R73). -/
def streamDelete (stream : Byte) (s : State) : Answer :=
  match streamIndex stream with
  | none => refuse s .range
  | some i =>
    match s.streams[i] with
    | none => refuse s .state
    | some c =>
      if c.state = .idle then { state := s.setStream i none, status := .ok, results := [] } else refuse s .state

/-- STREAM DELETE (R73). -/
def execStreamDelete (ref : Word16) (stream : Byte) (s : State) : Host.Outcome State Fault Refusal :=
  command 0x33 ref (streamDelete stream) s

/-- A stream after STREAM READ: IntervalOverflow cleared (R74). -/
def StreamCtx.afterRead (c : StreamCtx) : StreamCtx := { c with run := { c.run with intervalOverflow := false } }

/-- The rule of STREAM READ (R74). -/
def streamRead (stream : Byte) (s : State) : Answer :=
  match streamIndex stream with
  | none => refuse s .range
  | some i =>
    match s.streams[i] with
    | none => refuse s .noent
    | some c =>
      { state := s.setStream i (some c.afterRead), status := .ok
        results := c.state.code :: c.config.bytes ++ c.run.bytes }

/-- STREAM READ (R74). -/
def execStreamRead (ref : Word16) (stream : Byte) (s : State) : Host.Outcome State Fault Refusal :=
  command 0x34 ref (streamRead stream) s

end Sys2Proof.Machine
end

