-- ==== Sys2Proof/Machine/QueueCommands.lean ====
section
/-! DEFINITION. The host's queue commands and the Trunk Transmitter's events (chapter 8): QUEUE MARKS, QUEUE READ,
TRANSMIT_BEGIN, TRANSMIT_END. -/

namespace Sys2Proof.Machine

/-- The marks that QUEUE MARKS sets, with Throttled evaluated at once (R141). -/
def UplinkQueue.setMarks (q : UplinkQueue) (high low : Nat) : UplinkQueue :=
  { q with highMark := high, lowMark := low }.evaluate

/-- QUEUE MARKS's results (R141, Table 11-5). -/
def UplinkQueue.markBytes (q : UplinkQueue) : List Byte :=
  nat16 q.highMark ++ nat16 q.lowMark ++ nat16 q.occupancy ++ [mark q.throttled]

/-- The rule of QUEUE MARKS (R141): in every case the reply carries the marks in force after the command. -/
def queueMarks (high low : Word16) (s : State) : Answer :=
  if high.toNat ≤ low.toNat ∨ Config.queueBytes < high.toNat then
    { state := s, status := .range, results := s.queue.markBytes }
  else
    let q := s.queue.setMarks high.toNat low.toNat
    { state := { s with queue := q }, status := .ok, results := q.markBytes }

/-- QUEUE MARKS (R141). -/
def execQueueMarks (ref high low : Word16) (s : State) : Host.Outcome State Fault Refusal :=
  command 0x40 ref (queueMarks high low) s

/-- What the open frame's entry count reads as: the count while a frame is open (R142), and otherwise a free value, since the
spec states none (log entry 22, DESIGN CHOICE). -/
def State.openEntries (s : State) : Byte :=
  match s.queue.openFrame with
  | some f => nat8 f.entries.length
  | none => Config.openEntriesUnset s.freeCount

/-- QUEUE READ's results, for what the open frame's entry count reads as (R142, Table 11-5). -/
def UplinkQueue.bytes (q : UplinkQueue) (openEntries : Byte) : List Byte :=
  nat16 q.occupancy ++ [nat8 q.frames.length, mark q.openFrame.isSome, openEntries, q.marks] ++
    nat16 q.highMark ++ nat16 q.lowMark ++ be16 q.droppedSinceOpen ++ q.lost.bytes

/-- The rule of QUEUE READ (R142). -/
def queueRead (clear : Byte) (s : State) : Answer :=
  match yesNo clear with
  | none => refuse s .range
  | some clear =>
    let s' := if clear then { s with queue := { s.queue with lost := LossCounters.zero } } else s
    { state := s'.drawIf s.queue.openFrame.isNone, status := .ok, results := s.queue.bytes s.openEntries }

/-- QUEUE READ (R142). -/
def execQueueRead (ref : Word16) (clear : Byte) (s : State) : Host.Outcome State Fault Refusal :=
  command 0x41 ref (queueRead clear) s

/-- The frames among which the order is open (R143): the first in the arbiter's order, as far as they began to wait together,
when they are two or more. A frame that began to wait otherwise keeps its place in the arbiter's order. -/
def State.contenders (s : State) : List TxSource :=
  let both := s.waiting.takeWhile fun src => src ∈ s.tied
  if 2 ≤ both.length then both else []

/-- The frame the Trunk Transmitter takes (R143): among frames that began to wait together an open choice, and otherwise
the first in the arbiter's order. -/
def State.choose (s : State) : Option TxSource :=
  match s.contenders with
  | [] => s.waiting.head?
  | first :: rest => some ((first :: rest).getD (Config.firstTaken s.freeCount % (rest.length + 1)) first)

/-- The waiting frame of a source taken from its place, and its transmission begun (R143, R144). -/
def State.takeFrame (s : State) : TxSource → State
  | .reply =>
    match s.replySlot with
    | some r =>
      { s with replySlot := none, transmission := some { source := .reply, bytes := trunkFrame typeReply r.body } }
    | none => s
  | .alert =>
    match s.status.alertSlot with
    | some a =>
      { s with
        status := { s.status with alertSlot := none }
        transmission := some { source := .alert, bytes := trunkFrame typeAlert a.body } }
    | none => s
  | .report =>
    match s.queue.closed with
    | f :: rest =>
      { s with
        queue := { s.queue with closed := rest }.evaluate
        transmission := some { source := .report, bytes := trunkFrame typeReport f.body } }
    | [] => s

/-- TRANSMIT_BEGIN (R143): the idle transmitter takes a waiting frame. -/
def execTransmitBegin (s : State) : Host.Outcome State Fault Refusal :=
  event s fun s =>
    if s.transmission.isSome then s
    else match s.choose with
      | some src => (s.drawIf (s.contenders != [])).takeFrame src
      | none => s

/-- What the part sends on TRX_TXD: the frame's bytes back to back, each framed as a character; nothing while the transmitter is
IDLE, when the line is at its idle level (R144, R145, R180). -/
def State.trunkDrive (s : State) : List TrunkUnit :=
  match s.transmission with
  | some t => t.bytes.flatMap trunkCharacter
  | none => []

/-- TRANSMIT_END (R144): the transmission's last byte is sent and the transmitter is IDLE. -/
def execTransmitEnd (s : State) : Host.Outcome State Fault Refusal :=
  event s fun s => { s with transmission := none }

end Sys2Proof.Machine
end

