-- ==== Sys2Proof/Machine/Receiver.lean ====
section
/-! DEFINITION. The Trunk Receiver and the Command Unit (sections 10.1 and 10.2): each byte taken according to the receiver's
state, bad frames, and a good frame read as one of the commands of Table 11-5 and executed. -/

namespace Sys2Proof.Machine

/-- A command without arguments (Table 11-5). -/
def noByte (rule : State → Answer) : List Byte → Option (State → Answer)
  | [] => some rule
  | _ => none

/-- A command with one argument byte (Table 11-5). -/
def oneByte (rule : Byte → State → Answer) : List Byte → Option (State → Answer)
  | [a] => some (rule a)
  | _ => none

/-- A command with two argument bytes (Table 11-5). -/
def twoBytes (rule : Byte → Byte → State → Answer) : List Byte → Option (State → Answer)
  | [a, b] => some (rule a b)
  | _ => none

/-- The rule of the command that an opcode and its argument bytes name (Table 11-5); `none` for an unknown opcode or a wrong
argument length, which are answered FORMAT (R169, steps 1 and 2). -/
def commandRule (opcode : Byte) (args : List Byte) : Option (State → Answer) :=
  match opcode.toNat with
  | 0x01 => noByte identify args
  | 0x02 => twoBytes (fun c1 c0 => status (word16 c1 c0)) args
  | 0x03 => twoBytes (fun m1 m0 => alertMask (word16 m1 m0)) args
  | 0x04 => noByte flush args
  | 0x10 => (timingArgsOfBytes args).map timing
  | 0x11 => noByte run args
  | 0x12 => noByte halt args
  | 0x13 =>
    match args with
    | count :: slots => some (scheduleLoad count slots)
    | [] => none
  | 0x14 => oneByte scheduleRead args
  | 0x18 => noByte lineRead args
  | 0x20 => twoBytes nodeSet args
  | 0x21 => oneByte nodeDelete args
  | 0x22 => twoBytes nodeRead args
  | 0x30 =>
    match args with
    | stream :: config => (streamArgsOfBytes config).map (streamSet stream)
    | [] => none
  | 0x31 => oneByte streamEnable args
  | 0x32 => oneByte streamDisable args
  | 0x33 => oneByte streamDelete args
  | 0x34 => oneByte streamRead args
  | 0x40 =>
    match args with
    | [h1, h0, l1, l0] => some (queueMarks (word16 h1 h0) (word16 l1 l0))
    | _ => none
  | 0x41 => oneByte queueRead args
  | 0x50 =>
    match args with
    | node :: t1 :: t0 :: payload => some (forward node (word16 t1 t0) payload)
    | _ => none
  | 0x51 => oneByte cancel args
  | _ => none

/-- A frame answered FORMAT (R167, R169): no state changes but the Reply Slot. -/
def formatAnswer (s : State) : Answer := refuse s .format

/-- The content of a good frame handed to the Command Unit (R167): TYPE COMMAND with an opcode and a Reference is executed;
anything else is answered FORMAT with opcode 0 and Reference 0. -/
def State.handOn (s : State) (content : List Byte) : State :=
  match content with
  | type :: opcode :: r1 :: r0 :: args =>
    if type = typeCommand then s.take opcode (word16 r1 r0) ((commandRule opcode args).getD formatAnswer)
    else s.take 0 0 formatAnswer
  | _ => s.take 0 0 formatAnswer

/-- A bad frame, as one event: discarded and counted, TRUNK raised, and the receiver in HUNT (R166). -/
def State.badFrame (s : State) : State :=
  s.settle ({ s with receiver := .hunt, badFrames := bump s.badFrames }.raise .trunk)

/-- A byte examined in HUNT: a SYNC begins a frame, any other byte is discarded (R165). -/
def huntByte (b : Byte) : ReceiverState := if b = Config.sync then .length [] else .hunt

/-- The receiver after two LENGTH bytes that are out of range: in HUNT they are examined again, the first before the second;
after a SYNC the second is the first byte of a LENGTH (R165). -/
def rehunt (hi lo : Byte) : ReceiverState :=
  match huntByte hi with
  | .length _ => .length [lo]
  | _ => huntByte lo

/-- LENGTH examined once both bytes are held (R165). -/
def lengthByte (got : List Byte) (b : Byte) : ReceiverState :=
  match got with
  | [] => .length [b]
  | hi :: _ =>
    let length := word16 hi b
    if lengthBad length then rehunt hi b else .content length []

/-- The two CRC bytes compared with the CRC over LENGTH and the content: a good frame is handed on, and the receiver is in
HUNT; a mismatch is a bad frame (R165, R166). -/
def State.checkFrame (s : State) (length : Word16) (content crc : List Byte) : State :=
  if crc = be16 (crc16 (be16 length ++ content)) then { s with receiver := .hunt }.handOn content else s.badFrame

/-- A byte with a valid stop bit taken according to the receiver's state (R165). -/
def State.receiveByte (s : State) (b : Byte) : State :=
  match s.receiver with
  | .hunt => { s with receiver := huntByte b }
  | .length got => { s with receiver := lengthByte got b }
  | .content length got =>
    let got := got ++ [b]
    { s with receiver := if got.length < length.toNat then .content length got else .check length got [] }
  | .check length content crc =>
    match crc with
    | [] => { s with receiver := .check length content [b] }
    | c :: _ => s.checkFrame length content [c, b]

/-- Bytes that arrive one after another (R165). -/
def State.receiveBytes (s : State) (bytes : List Byte) : State := bytes.foldl State.receiveByte s

/-- A frame the receiver has begun is discarded as a bad frame; in HUNT there is none (R166). -/
def State.discardBegun (s : State) : State :=
  match s.receiver with
  | .hunt => s
  | .length _ | .content _ _ | .check _ _ _ => s.badFrame

/-- TRUNK_FRAME_RECEIVED (R165 to R169): the bytes that arrive, with which a frame is complete and checked; a good frame is
handed to the Command Unit and executed or dropped. -/
def execTrunkFrameReceived (bytes : List Byte) (s : State) : Host.Outcome State Fault Refusal :=
  outsideReset s fun s => s.receiveBytes bytes

/-- TRUNK_GAP_TIMEOUT (R166, Gap): more than 32 byte-times pass after the bytes, and a frame begun is bad. -/
def execTrunkGapTimeout (bytes : List Byte) (s : State) : Host.Outcome State Fault Refusal :=
  outsideReset s fun s => (s.receiveBytes bytes).discardBegun

/-- TRUNK_BYTE_ERROR (R166, Byte error): after the bytes one arrives without a valid stop bit; a frame begun is bad at that
byte, and in HUNT the byte is discarded without being counted. -/
def execTrunkByteError (bytes : List Byte) (s : State) : Host.Outcome State Fault Refusal :=
  outsideReset s fun s => (s.receiveBytes bytes).discardBegun

/-- The LENGTH bytes that complete a LENGTH of the given value in the receiver's state, with the SYNC before them when none
has been taken yet; `none` inside a frame, or when another first byte is held. -/
def lengthArrival (receiver : ReceiverState) (length : Word16) : Option (List Byte) :=
  match receiver with
  | .hunt => some (Config.sync :: be16 length)
  | .length [] => some (be16 length)
  | .length (hi :: _) => if (be16 length).head? = some hi then some ((be16 length).drop 1) else none
  | .content _ _ | .check _ _ _ => none

/-- LENGTH_OUT_OF_RANGE (R165): after a SYNC a LENGTH of 0 or above 513 arrives, and the receiver returns to HUNT and
examines its two bytes again. A LENGTH in range is not this event. -/
def execLengthOutOfRange (length : Word16) (s : State) : Host.Outcome State Fault Refusal :=
  outsideReset s fun s =>
    if lengthBad length then
      match lengthArrival s.receiver length with
      | some bytes => s.receiveBytes bytes
      | none => s
    else s

end Sys2Proof.Machine
end

