-- ==== Sys2Proof/Machine/Dispatch.lean ====
section
/-! DEFINITION. The meaning of each command of the block: one arm per constructor of `Instr`, in the table's order. -/

namespace Sys2Proof.Machine

/-- A command's effect on everything but the queue of commands that wait. -/
def exec (i : Instr) (s : State) : Host.Outcome State Fault Refusal :=
  match i with
  | .masterReset cause => Sys2Proof.Machine.execMasterReset cause s
  | .masterResetEnd rate1 rate0 => Sys2Proof.Machine.execMasterResetEnd rate1 rate0 s
  | .tick => Sys2Proof.Machine.execTick s
  | .cycleBoundary => Sys2Proof.Machine.execCycleBoundary s
  | .streamEngineBoundary => Sys2Proof.Machine.execStreamEngineBoundary s
  | .boundaryFrameClose => Sys2Proof.Machine.execBoundaryFrameClose s
  | .beaconBegin => Sys2Proof.Machine.execBeaconBegin s
  | .beaconSent => Sys2Proof.Machine.execBeaconSent s
  | .slotExamine => Sys2Proof.Machine.execSlotExamine s
  | .pollSent => Sys2Proof.Machine.execPollSent s
  | .startDelimiter spacings => Sys2Proof.Machine.execStartDelimiter spacings s
  | .replyTimeout => Sys2Proof.Machine.execReplyTimeout s
  | .replyComplete spacings => Sys2Proof.Machine.execReplyComplete spacings s
  | .receptionAbort spacings => Sys2Proof.Machine.execReceptionAbort spacings s
  | .lineSilence spacings => Sys2Proof.Machine.execLineSilence spacings s
  | .turnGapEnd => Sys2Proof.Machine.execTurnGapEnd s
  | .calibrationWindowComplete spacings => Sys2Proof.Machine.execCalibrationWindowComplete spacings s
  | .trunkFrameReceived bytes => Sys2Proof.Machine.execTrunkFrameReceived bytes s
  | .trunkGapTimeout bytes => Sys2Proof.Machine.execTrunkGapTimeout bytes s
  | .transmitBegin => Sys2Proof.Machine.execTransmitBegin s
  | .transmitEnd => Sys2Proof.Machine.execTransmitEnd s
  | .identify ref => Sys2Proof.Machine.execIdentify ref s
  | .status ref clearSet => Sys2Proof.Machine.execStatus ref clearSet s
  | .alertMask ref mask => Sys2Proof.Machine.execAlertMask ref mask s
  | .flush ref => Sys2Proof.Machine.execFlush ref s
  | .timing ref args => Sys2Proof.Machine.execTiming ref args s
  | .run ref => Sys2Proof.Machine.execRun ref s
  | .halt ref => Sys2Proof.Machine.execHalt ref s
  | .scheduleLoad ref count slots => Sys2Proof.Machine.execScheduleLoad ref count slots s
  | .scheduleRead ref selector => Sys2Proof.Machine.execScheduleRead ref selector s
  | .lineRead ref => Sys2Proof.Machine.execLineRead ref s
  | .nodeSet ref node address => Sys2Proof.Machine.execNodeSet ref node address s
  | .nodeDelete ref node => Sys2Proof.Machine.execNodeDelete ref node s
  | .nodeRead ref node clear => Sys2Proof.Machine.execNodeRead ref node clear s
  | .streamSet ref stream args => Sys2Proof.Machine.execStreamSet ref stream args s
  | .streamEnable ref stream => Sys2Proof.Machine.execStreamEnable ref stream s
  | .streamDisable ref stream => Sys2Proof.Machine.execStreamDisable ref stream s
  | .streamDelete ref stream => Sys2Proof.Machine.execStreamDelete ref stream s
  | .streamRead ref stream => Sys2Proof.Machine.execStreamRead ref stream s
  | .queueMarks ref high low => Sys2Proof.Machine.execQueueMarks ref high low s
  | .queueRead ref clear => Sys2Proof.Machine.execQueueRead ref clear s
  | .forward ref node tag payload => Sys2Proof.Machine.execForward ref node tag payload s
  | .cancel ref node => Sys2Proof.Machine.execCancel ref node s
  | .trunkByteError bytes => Sys2Proof.Machine.execTrunkByteError bytes s
  | .lengthOutOfRange length => Sys2Proof.Machine.execLengthOutOfRange length s

end Sys2Proof.Machine
end

