-- ==== Sys2Proof/Machine/CommandFrames.lean ====
section
/-! DEFINITION. The COMMAND frame that carries each host command on the trunk link (Tables 11-1, 11-2, 11-5): what the host
sends, written beside the reading of it in Sys2Proof/Machine/Receiver.lean. -/

namespace Sys2Proof.Machine

/-- The body of a COMMAND frame: opcode, Reference, arguments (Table 11-2). -/
def hostBody (opcode : Byte) (ref : Word16) (args : List Byte) : Option (List Byte) := some (opcode :: be16 ref ++ args)

/-- The body that carries a host command (Table 11-5); `none` for the events, which no frame carries. -/
def commandBody : Instr → Option (List Byte)
  | .identify ref => hostBody 0x01 ref []
  | .status ref clearSet => hostBody 0x02 ref (be16 clearSet)
  | .alertMask ref mask => hostBody 0x03 ref (be16 mask)
  | .flush ref => hostBody 0x04 ref []
  | .timing ref args => hostBody 0x10 ref (timingArgsBytes args)
  | .run ref => hostBody 0x11 ref []
  | .halt ref => hostBody 0x12 ref []
  | .scheduleLoad ref count slots => hostBody 0x13 ref (count :: slots)
  | .scheduleRead ref selector => hostBody 0x14 ref [selector]
  | .lineRead ref => hostBody 0x18 ref []
  | .nodeSet ref node address => hostBody 0x20 ref [node, address]
  | .nodeDelete ref node => hostBody 0x21 ref [node]
  | .nodeRead ref node clear => hostBody 0x22 ref [node, clear]
  | .streamSet ref stream args => hostBody 0x30 ref (stream :: streamArgsBytes args)
  | .streamEnable ref stream => hostBody 0x31 ref [stream]
  | .streamDisable ref stream => hostBody 0x32 ref [stream]
  | .streamDelete ref stream => hostBody 0x33 ref [stream]
  | .streamRead ref stream => hostBody 0x34 ref [stream]
  | .queueMarks ref high low => hostBody 0x40 ref (be16 high ++ be16 low)
  | .queueRead ref clear => hostBody 0x41 ref [clear]
  | .forward ref node tag payload => hostBody 0x50 ref (node :: be16 tag ++ payload)
  | .cancel ref node => hostBody 0x51 ref [node]
  | .masterReset _ | .masterResetEnd _ _ | .tick | .cycleBoundary | .streamEngineBoundary | .boundaryFrameClose => none
  | .beaconBegin | .beaconSent | .slotExamine | .pollSent | .startDelimiter _ | .replyTimeout => none
  | .replyComplete _ | .receptionAbort _ | .lineSilence _ | .turnGapEnd | .calibrationWindowComplete _ => none
  | .trunkFrameReceived _ | .trunkGapTimeout _ | .transmitBegin | .transmitEnd | .trunkByteError _
  | .lengthOutOfRange _ => none

/-- The whole COMMAND frame, SYNC through CRC (Table 11-1). -/
def commandFrame (c : Instr) : Option (List Byte) := (commandBody c).map (trunkFrame typeCommand)

end Sys2Proof.Machine
end

