-- ==== Sys2Proof/Safety.lean ====
section
/-! DEFINITION. What must hold of the machine in every state a step keeps: one invariant per part of the state, each a
decidable proposition; and the words in which the statements speak of a step. -/

namespace Sys2Proof.Machine

/-! ## Words of the statements -/

/-- No master reset holds the part (R177). -/
abbrev State.live (s : State) : Prop := s.holding = none

/-- A good frame would be taken: no master reset holds the part and the Reply Slot is empty (R168). -/
abbrev State.accepts (s : State) : Prop := s.holding = none ∧ s.replySlot = none

/-- The state with a REPLY in the Reply Slot. -/
def State.replied (s : State) (opcode : Byte) (ref : Word16) (status : Status) (results : List Byte) : State :=
  { s with replySlot := some { opcode := opcode, ref := ref, status := status, results := results } }

/-- The scheduler may act: the port is IDLE with no turn gap running and the engine is RUNNING (R36, R37). -/
abbrev State.walks (s : State) : Prop :=
  s.port.state = .idle ∧ s.port.turnGap = none ∧ s.timer.engine = .running

/-- The slot at a place of the active schedule is skipped: its entry is FREE, or it is DOWN and the slot is no probe poll
(R37, R38). -/
def State.skipsSlot (s : State) (place : Nat) (node : Fin 32) : Bool :=
  match s.nodes[node] with
  | none => true
  | some e => e.state == .down && !(e.probeCountdown == 0 && !(s.sched.active.take place).contains node)

/-! ## Timing parameters, schedules and the slot position -/

/-- The timing parameters lie in their ranges (Table 2-3). -/
abbrev Timing.ok (t : Timing) : Prop :=
  (1 ≤ t.tickDivide ∧ t.tickDivide ≤ 4096) ∧ (100 ≤ t.cyclePeriod ∧ t.cyclePeriod ≤ 65535) ∧
    (10 ≤ t.replyTimeout ∧ t.replyTimeout ≤ 20000) ∧ t.turnGap ≤ 1000 ∧ (1 ≤ t.retryLimit ∧ t.retryLimit ≤ 15) ∧
    (1 ≤ t.probeInterval ∧ t.probeInterval ≤ 255) ∧ (1 ≤ t.deliverLimit ∧ t.deliverLimit ≤ 15) ∧
    (1 ≤ t.holdLimit ∧ t.holdLimit ≤ 255) ∧ (8 ≤ t.fieldDivide ∧ t.fieldDivide ≤ 48 ∧ t.fieldDivide % 4 = 0)

/-- The Cycle Timer and the Poll Scheduler stay in their ranges: the parameters, the divider below TickDivide, both lists
at most 64 slots long and the slot position within the active one; and outside RUNNING every boundary has been reacted to
(R24, R32, R37, R41, R45). -/
abbrev State.clockOk (s : State) : Prop :=
  s.timer.timing.ok ∧ s.timer.divider < s.timer.timing.tickDivide ∧ s.sched.active.length ≤ Config.scheduleSlots ∧
    (∀ list ∈ s.sched.pending, list.length ≤ Config.scheduleSlots) ∧ s.sched.position ≤ s.sched.active.length ∧
    (s.timer.engine ≠ .running → s.notices = { streamEngine := [], assembler := 0 })

/-! ## The Line Calibrator -/

/-- The Line Calibrator's fields lie in the ranges of Table 3-2 (R57). -/
abbrev State.calibratorOk (s : State) : Prop :=
  (1 ≤ s.cal.nextThreshold ∧ s.cal.nextThreshold ≤ 63) ∧ (1 ≤ s.cal.thresholdInUse ∧ s.cal.thresholdInUse ≤ 63) ∧
    s.cal.spacingCount ≤ 255 ∧ s.cal.longCount ≤ s.cal.spacingCount ∧ s.cal.lastLong ≤ 256 ∧
    s.cal.consecutiveFails ≤ 255

/-! ## The uplink queue -/

/-- A frame of the queue holds 1..32 entries (R132, R134). -/
abbrev ReportFrame.ok (f : ReportFrame) : Prop := 1 ≤ f.entries.length ∧ f.entries.length ≤ Config.frameEntries

/-- An open frame has room for an entry, holds no urgent one, and has no close flag (R134, R136). -/
abbrev ReportFrame.stillOpen (f : ReportFrame) : Prop :=
  f.entries.length < Config.frameEntries ∧ (∀ e ∈ f.entries, e.urgent = false) ∧
    f.flags = ⟨false, false, false, false⟩

/-- The bounds of the queue and its Throttled mark (R132, R139, R141). -/
abbrev UplinkQueue.ok (q : UplinkQueue) : Prop :=
  q.frames.length ≤ Config.queueFrames ∧ q.occupancy ≤ Config.queueBytes ∧ (∀ f ∈ q.frames, f.ok) ∧
    (∀ f ∈ q.openFrame, f.stillOpen) ∧ (q.lowMark < q.highMark ∧ q.highMark ≤ Config.queueBytes) ∧
    (q.highMark ≤ q.occupancy → q.throttled = true) ∧ (q.occupancy ≤ q.lowMark → q.throttled = false)

/-- The queue of the machine stays within its bounds. -/
abbrev State.queueOk (s : State) : Prop := s.queue.ok

/-! ## Flags and alerts -/

/-- ALERT_N follows the masked flags except while master reset holds the part, and an armed alert has no set flag masked
(R171, R172, R177). -/
abbrev State.alertOk (s : State) : Prop :=
  (s.holding = none → s.status.alertN = s.status.masked) ∧ (s.holding ≠ none → s.status.alertN = false) ∧
    (s.status.armed = true → s.status.masked = false)

/-! ## The Field Port and the engine -/

/-- The state in which an exchange is in flight (R4, Table 3-1). -/
def PortState.exchanging : PortState → Bool
  | .idle => false
  | .sending frame => !frame.beacon
  | .awaiting _ | .receiving _ => true

/-- The port is AWAITING. -/
def PortState.isAwaiting : PortState → Bool
  | .awaiting _ => true
  | .idle | .sending _ | .receiving _ => false

/-- The port is SENDING. -/
def PortState.isSending : PortState → Bool
  | .sending _ => true
  | .idle | .awaiting _ | .receiving _ => false

/-- The Field Port's outputs and timers agree with its exchange state, an exchange in flight names an in-use entry, and the
engine's state agrees with the port's while no master reset holds the part (Table 2-1, Table 3-1, R4, R30). -/
abbrev State.portOk (s : State) : Prop :=
  s.port.fldDe = s.port.state.isSending ∧ s.port.exchange.isSome = s.port.state.exchanging ∧
    s.port.replyTimer.isSome = s.port.state.isAwaiting ∧ (s.port.turnGap ≠ none → s.port.state = .idle) ∧
    (∀ x ∈ s.port.exchange, s.nodes[x.node].isSome = true) ∧
    (s.timer.engine = .halted → s.port.state = .idle) ∧
    (s.timer.engine ≠ .running → s.sched.beacon = none) ∧
    (s.timer.engine = .stopping → s.holding = none → s.port.state ≠ .idle)

/-! ## The node table -/

/-- A payload in a slot: 1..64 bytes, and Attempts within DeliverLimit, at it only while the exchange of the last attempt
is in flight (R151, R154). -/
abbrev State.slotOk (s : State) (i : Fin 32) (p : DownPayload) : Prop :=
  (1 ≤ p.payload.length ∧ p.payload.length ≤ Config.payloadBytes) ∧ p.attempts ≤ s.timer.timing.deliverLimit ∧
    (p.attempts = s.timer.timing.deliverLimit → s.holding = none →
      ∃ x ∈ s.port.exchange, x.node = i ∧ x.carried = true)

/-- An in-use entry: its Address, its counts, a slot without Resync, and no slot while DOWN (R1, R3, R13, R151). -/
abbrev State.entryOk (s : State) (i : Fin 32) (e : NodeEntry) : Prop :=
  (1 ≤ e.address.toNat ∧ e.address.toNat ≤ 126) ∧ e.retryCount ≤ s.timer.timing.retryLimit ∧ e.holdCount ≤ 255 ∧
    e.probeCountdown ≤ 255 ∧ (e.state = .down → e.slot = none) ∧ (e.slot ≠ none → e.resync = none) ∧
    (∀ p ∈ e.slot, s.slotOk i p)

/-- The node table: every in-use entry is in order, and their addresses are pairwise distinct (R1). -/
abbrev State.nodesOk (s : State) : Prop :=
  (∀ i : Fin 32, ∀ e ∈ s.nodes[i], s.entryOk i e) ∧
    ∀ i j : Fin 32, i ≠ j → ∀ e ∈ s.nodes[i], ∀ e' ∈ s.nodes[j], e.address ≠ e'.address

/-! ## The streams -/

/-- The state of a stream agrees with its node's: ACTIVE with a node that is not DOWN, SUSPENDED with one that is (R63). -/
abbrev StreamState.agrees (st : StreamState) (node : NodeState) : Prop :=
  (st = .active → node ≠ .down) ∧ (st = .suspended → node = .down)

/-- The filter's history has the length its order and ratio give, and its phase stands below the ratio (R87, R89). -/
abbrev FilterState.ok (f : FilterState) (k r : Nat) : Prop := f.history.length = k * (r - 1) ∧ f.phase < r

/-- The comparator of a stream: its own filter, a count below TripCount, and INSIDE outside ACTIVE (R69, R104, R106). -/
abbrev StreamCtx.comparatorOk (c : StreamCtx) : Prop :=
  (∀ m ∈ c.config.comparator, c.run.cmpFilter.ok m.kc m.rc ∧ c.run.beyondCount < m.tripCount) ∧
    (c.config.comparator = none → c.run.cmpState = .inside) ∧ (c.state ≠ .active → c.run.cmpState = .inside) ∧
    (c.run.cmpState ≠ .inside → c.run.beyondCount = 0 ∧ c.run.beyondDir = none)

/-- The configuration's ranges that the running state rests on (Table 4-1). -/
abbrev StreamConfig.ok (c : StreamConfig) : Prop :=
  (1 ≤ c.k ∧ c.k ≤ 3) ∧ (1 ≤ c.r ∧ c.r ≤ 256) ∧ (c.kind = .words → c.r ^ c.k ≤ 65536) ∧ c.staleLimit ≤ 255 ∧
    ∀ m ∈ c.comparator, (1 ≤ m.kc ∧ m.kc ≤ 3) ∧ (1 ≤ m.rc ∧ m.rc ≤ 32) ∧ m.low < m.high ∧
      (1 ≤ m.tripCount ∧ m.tripCount ≤ 15)

/-- A stream context in order: its node in use and its state agreeing with the node's, its filters, its comparator, and a
count of cycles within 0..255 (R63, R64, R65). -/
abbrev State.streamOk (s : State) (c : StreamCtx) : Prop :=
  (∃ e ∈ s.nodes[c.config.node], c.state.agrees e.state) ∧ c.config.ok ∧ c.run.filter.ok c.config.k c.config.r ∧
    c.run.countdown ≤ 2 ∧ c.comparatorOk ∧ c.run.cyclesSince ≤ 255

/-- The stream contexts: each in order, and no (node index, tag) pair held twice (R63, R66). -/
abbrev State.streamsOk (s : State) : Prop :=
  (∀ i : Fin 64, ∀ c ∈ s.streams[i], s.streamOk c) ∧
    ∀ i j : Fin 64, i ≠ j → ∀ c ∈ s.streams[i], ∀ d ∈ s.streams[j],
      ¬ (c.config.node = d.config.node ∧ c.config.tag = d.config.tag)

/-! ## The Trunk Receiver -/

/-- What the receiver has stored stays short of what it awaits (Table 10-1, R165). -/
def ReceiverState.ok : ReceiverState → Bool
  | .hunt => true
  | .length got => got.length ≤ 1
  | .content n got => !lengthBad n && got.length < n.toNat
  | .check n body crc => !lengthBad n && body.length == n.toNat && crc.length ≤ 1

end Sys2Proof.Machine
end

