-- ==== Sys2Proof/Certificates/Slice0/Obligations.lean ====
section
/-! DEFINITION. The statements about the model, one proposition each. A next state is written as the state with the
fields that change; what is not written is the frame. `State.settle` only notes, in the model's own field `tied`, the
frames that began to wait together with an event (log entry 3; TransmitterTakesWaitingFrames says what it notes). -/

open Sys2Proof Sys2Proof.Machine

/-! ## The step -/

/-- A step runs the command at the front of the queue on the state with the queue's rest. -/
def Obligations.StepRunsFrontCommand : Prop :=
  ∀ (s : State) (c : Instr) (rest : List Instr), s.pending = c :: rest → step s = exec c { s with pending := rest }

/-- With no command waiting a step is one reference period of the tick divider, and nothing while master reset holds
the part. That a step without a command is a reference period is the model's choice (log entry 7, DESIGN CHOICE). -/
def Obligations.IdleStepIsOneReferencePeriod : Prop :=
  ∀ s : State, s.pending = [] →
    (s.holding ≠ none → step s = .next s) ∧
    (s.live → s.timer.divider + 1 < s.timer.timing.tickDivide →
      step s = .next { s with timer := { s.timer with divider := s.timer.divider + 1 } }) ∧
    (s.live → s.timer.timing.tickDivide ≤ s.timer.divider + 1 → step s = .next s.tick)

/-- Every command answers a next state from every state, and leaves the queue of commands as it is: no command faults
or is refused. That an event named while its condition does not stand answers a next state too, its state unchanged,
and that the queue of commands is kept, are the model's choices (log entries 4 and 13, DESIGN CHOICE). -/
def Obligations.NoCommandStopsTheBlock : Prop :=
  ∀ (c : Instr) (s : State), ∃ t, exec c s = .next t ∧ t.pending = s.pending

/-! ## Master reset -/

/-- MASTER_RESET begins to hold the part: both lines and ALERT_N are released, transmissions are cut off and the
exchange in flight is abandoned. While it holds the part, no command but the end of the reset, or a loss of power, has
any effect. That the rest of the state stands until the end of the reset is the model's choice (log entry 9, DESIGN
CHOICE). -/
def Obligations.MasterResetHoldsThePart : Prop :=
  (∀ (cause : ResetCause) (s : State), s.live ∨ cause = .power →
    exec (.masterReset cause) s = .next { s with
      holding := some cause
      port := { state := .idle, exchange := none, replyTimer := none, turnGap := none, fldDe := false }
      transmission := none
      tied := []
      status := { s.status with alertN := false } }) ∧
  ∀ (c : Instr) (s : State), s.holding ≠ none → c ≠ .masterReset .power → (∀ r1 r0, c ≠ .masterResetEnd r1 r0) →
    exec c s = .next s

/-- MASTER_RESET_END gives every piece of state its master reset value (Table 10-4), samples the straps and sets
ResetCause. That without a reset in progress it has no effect is the model's choice (log entry 4, DESIGN CHOICE), and
so is that the two fields of the model's own, `freeCount` and `pending`, are kept (log entry 13, DESIGN CHOICE). -/
def Obligations.ResetEndGivesMasterResetValues : Prop :=
  (∀ (cause : ResetCause) (rate1 rate0 : Bool) (s : State), s.holding = some cause →
    exec (.masterResetEnd rate1 rate0) s = .next {
      holding := none
      rate1 := rate1
      rate0 := rate0
      timer :=
        { timing :=
            { tickDivide := 16, cyclePeriod := 10000, replyTimeout := 400, turnGap := 20, retryLimit := 3,
              probeInterval := 10, deliverLimit := 4, holdLimit := 8, fieldDivide := 16 }
          divider := 0, engine := .halted, cycleCounter := 0, cycleNumber := 0 }
      sched := { active := [], pending := none, position := 0, beacon := none, overrunCount := 0 }
      notices := { streamEngine := [], assembler := 0 }
      port := { state := .idle, exchange := none, replyTimer := none, turnGap := none, fldDe := false }
      cal :=
        { line := .seeking, nextThreshold := 12, thresholdInUse := 12, bins := 0, longCount := 0, spacingCount := 0,
          lastBins := 0, lastLong := 0, lastFail := false, consecutiveFails := 0, fails := 0 }
      nodes := Vector.replicate 32 none
      unclaimed := Vector.replicate 32 0
      streams := Vector.replicate 64 none
      queue :=
        { closed := [], openFrame := none, droppedSinceOpen := 0,
          lost := { sample := 0, summary := 0, comparator := 0, stale := 0, node := 0, delivery := 0 },
          highMark := 3072, lowMark := 1024, throttled := false }
      transmission := none
      receiver := .hunt
      badFrames := 0
      replySlot := none
      droppedCommands := 0
      status :=
        { flags := 0, mask := 0, armed := true, alertSlot := none, alertN := false, resetCause := cause,
          flushCount := 0 }
      tied := []
      freeCount := s.freeCount
      pending := s.pending }) ∧
  (∀ (rate1 rate0 : Bool) (s : State), s.live → exec (.masterResetEnd rate1 rate0) s = .next s) ∧
  exec (.masterResetEnd false false) { State.reset with holding := some .power } = .next State.reset

/-! ## Ticks and cycles -/

/-- A completed tick restarts the divider's count, counts in the cycle counter of a RUNNING engine, in both field
timers, and in the interval meter of every ACTIVE stream, which marks ElapsedOver in place of passing 65535; nothing
else changes. -/
def Obligations.TickAdvancesCountersAndTimers : Prop :=
  ∀ s : State, s.live → ∃ streams : Vector (Option StreamCtx) 64,
    exec .tick s = .next (s.settle { s with
      timer := { s.timer with
        divider := 0
        cycleCounter := if s.timer.engine = .running then s.timer.cycleCounter + 1 else s.timer.cycleCounter }
      port := { s.port with
        replyTimer := s.port.replyTimer.map (· - 1)
        turnGap := s.port.turnGap.map (· - 1) }
      streams := streams }) ∧
    ∀ i : Fin 64, streams[i] = s.streams[i].map fun c =>
      if c.state = .active then
        { c with run := { c.run with
            elapsed := if c.run.elapsed = 65535 then 65535 else c.run.elapsed + 1
            elapsedOver := c.run.elapsedOver || c.run.elapsed == 65535 } }
      else c

/-- The effects of a cycle boundary on the Cycle Timer and the Poll Scheduler in RUNNING: the cycle number advances,
untaken slots and a replaced beacon are counted as overrun and raise OVERRUN, a pending schedule is adopted, the
position returns to 0, a beacon with the new number waits, and the countdowns of DOWN nodes fall; the boundary is made
known to the Stream Engine and the Report Assembler, and nothing else changes. The notices are the model's record of
it (log entry 8), that all six effects come before any reaction to the boundary is its choice (log entry 20, DESIGN CHOICE),
and so is that the event occurs on a count at or above CyclePeriod (log entry 16). -/
def Obligations.CycleBoundaryTakesSixEffects : Prop :=
  ∀ s : State, s.live → s.timer.engine = .running → s.timer.timing.cyclePeriod ≤ s.timer.cycleCounter →
    ∃ lost : Nat, lost = (s.sched.active.length - s.sched.position) + (if s.sched.beacon.isSome then 1 else 0) ∧
    ∃ nodes : Vector (Option NodeEntry) 32,
      (∀ i : Fin 32, nodes[i] = s.nodes[i].map fun e =>
        if e.state = .down then { e with probeCountdown := e.probeCountdown - 1 } else e) ∧
      exec .cycleBoundary s = .next (s.settle { s with
        timer := { s.timer with
          cycleCounter := s.timer.cycleCounter - s.timer.timing.cyclePeriod
          cycleNumber := s.timer.cycleNumber + 1 }
        sched :=
          { active := s.sched.pending.getD s.sched.active, pending := none, position := 0,
            beacon := some (s.timer.cycleNumber + 1), overrunCount := bumpBy s.sched.overrunCount lost }
        notices :=
          { streamEngine := s.notices.streamEngine ++ [s.timer.cycleNumber], assembler := s.notices.assembler + 1 }
        nodes := nodes
        status := if lost = 0 then s.status else s.status.raise .overrun (s.timer.cycleNumber + 1) })

/-- At every cycle boundary, the one made by RUN included, a present pending schedule becomes the active schedule
whole and the pending schedule becomes absent; without one the active schedule is kept. Overrun is counted against the
schedule active before, and none by RUN, and the walk begins at slot 0. OverrunCount saturates at 65535. That CYCLE_BOUNDARY
occurs on a count at or above CyclePeriod is the model's choice (log entry 16, DEDUCED). -/
def Obligations.BoundaryAdoptsPendingSchedule : Prop :=
  (∀ (count : Word16) (n : Nat), (bumpBy count n).toNat = min 65535 (count.toNat + n)) ∧
  (∀ s : State, s.live → s.timer.engine = .running → s.timer.timing.cyclePeriod ≤ s.timer.cycleCounter →
    ∃ t, exec .cycleBoundary s = .next t ∧
      (∀ list, s.sched.pending = some list → t.sched.active = list) ∧
      (s.sched.pending = none → t.sched.active = s.sched.active) ∧ t.sched.pending = none ∧ t.sched.position = 0 ∧
      t.sched.overrunCount = bumpBy s.sched.overrunCount
        ((s.sched.active.length - s.sched.position) + (if s.sched.beacon.isSome then 1 else 0))) ∧
  (∀ (ref : Word16) (s : State), s.accepts → s.timer.engine = .halted → s.sched.beacon = none →
    ∃ t, exec (.run ref) s = .next t ∧
      (∀ list, s.sched.pending = some list → t.sched.active = list) ∧
      (s.sched.pending = none → t.sched.active = s.sched.active) ∧ t.sched.pending = none ∧ t.sched.position = 0 ∧
      t.sched.overrunCount = s.sched.overrunCount)

/-- RUN in HALTED starts the engine with the effects of a boundary that counts no overrun, and answers the new cycle
number; in RUNNING it answers OK, in STOPPING BUSY, with the current number, and nothing else changes. That RUN's reply is
placed before the Stream Engine and the Report Assembler react to its boundary is the model's choice (log entry 21, DESIGN
CHOICE). -/
def Obligations.RunStartsTheEngine : Prop :=
  ∀ (ref : Word16) (s : State), s.accepts →
    (s.timer.engine = .halted → s.sched.beacon = none →
      exec (.run ref) s = .next (s.settle ({ s with
        timer := { s.timer with
          engine := .running, cycleCounter := 0, cycleNumber := s.timer.cycleNumber + 1 }
        sched := { s.sched with
          active := s.sched.pending.getD s.sched.active, pending := none, position := 0,
          beacon := some (s.timer.cycleNumber + 1) }
        notices :=
          { streamEngine := s.notices.streamEngine ++ [s.timer.cycleNumber], assembler := s.notices.assembler + 1 }
        nodes := s.nodes.map fun (entry : Option NodeEntry) => entry.map fun (e : NodeEntry) =>
          if e.state = NodeState.down then { e with probeCountdown := e.probeCountdown - 1 } else e
        }.replied 0x11 ref .ok (be16 (s.timer.cycleNumber + 1))))) ∧
    (s.timer.engine = .running →
      exec (.run ref) s = .next (s.settle (s.replied 0x11 ref .ok (be16 s.timer.cycleNumber)))) ∧
    (s.timer.engine = .stopping →
      exec (.run ref) s = .next (s.settle (s.replied 0x11 ref .busy (be16 s.timer.cycleNumber))))

/-- HALT in RUNNING finds a boundary before it with all its effects taken: `State.takeNotices` takes the reactions
that were still to come, one after another until none is left. It discards the waiting beacon; with the Field Port
IDLE the engine is HALTED at once and the open report frame is closed with HALT, and otherwise it is STOPPING. In
STOPPING and HALTED nothing changes. The reply is OK with the resulting engine state. That the reactions still to come
are taken by HALT itself is the model's choice (log entry 8, DEDUCED); which comes first while both blocks have one to
come is free (log entry 18). Each reaction, and HALT after them, is an event of its own for the frames that begin to wait
together (log entry 3). -/
def Obligations.HaltStopsTheEngine : Prop :=
  (∀ s : State, s.takeNotices.notices = { streamEngine := [], assembler := 0 } ∧
    (s.notices = { streamEngine := [], assembler := 0 } → s.takeNotices = s) ∧
    (s.notices.streamEngine ≠ [] → s.notices.assembler = 0 →
      s.takeNotices = (s.settle s.streamEngineBoundary).takeNotices) ∧
    (s.notices.streamEngine = [] → s.notices.assembler ≠ 0 →
      s.takeNotices = (s.settle s.assemblerBoundary).takeNotices) ∧
    (s.notices.streamEngine ≠ [] → s.notices.assembler ≠ 0 → ∀ drawn, drawn = { s with freeCount := s.freeCount + 1 } →
      s.takeNotices = (drawn.settle drawn.streamEngineBoundary).takeNotices ∨
        s.takeNotices = (drawn.settle drawn.assemblerBoundary).takeNotices)) ∧
  ∀ (ref : Word16) (s m : State), s.accepts → m = s.takeNotices →
    (s.timer.engine = .running → s.port.state = .idle →
      exec (.halt ref) s = .next (m.settle ({ m with
        timer := { m.timer with engine := .halted }
        sched := { m.sched with beacon := none }
        queue := match m.queue.openFrame with
          | some f => { m.queue with
              closed := m.queue.closed ++ [{ f with flags := { f.flags with halt := true } }], openFrame := none }
          | none => m.queue }.replied 0x12 ref .ok [0]))) ∧
    (s.timer.engine = .running → s.port.state ≠ .idle →
      exec (.halt ref) s = .next (m.settle ({ m with
        timer := { m.timer with engine := .stopping }
        sched := { m.sched with beacon := none } }.replied 0x12 ref .ok [2]))) ∧
    (s.timer.engine = .stopping → exec (.halt ref) s = .next (s.settle (s.replied 0x12 ref .ok [2]))) ∧
    (s.timer.engine = .halted → exec (.halt ref) s = .next (s.settle (s.replied 0x12 ref .ok [0])))

/-- The Stream Engine takes the oldest boundary made known to it, stream by stream in ascending number. At an ACTIVE
stream the stale check comes first: with StaleLimit above 0 CyclesSinceBlock advances, and on reaching the limit with
Stale clear a STALE entry is made, Stale set and the flag raised. Then a CYCLE integrator closes its window with a
SUMMARY that carries the number of the cycle ended and reopens it, a waiting COUNT integrator opens its window, and
any other is untouched. A stream that is not ACTIVE is not reached. The Report Assembler takes a boundary made known
to it: the open frame, if there is one, is closed with the BOUNDARY flag, and nothing else in the queue changes. That
a boundary waits for each of the two blocks is the model's record of it (log entry 8). -/
def Obligations.StreamEngineAndAssemblerTakeBoundary : Prop :=
  ((∀ s : State, s.live → exec .streamEngineBoundary s = .next (s.settle s.streamEngineBoundary) ∧
    exec .boundaryFrameClose s = .next (s.settle s.assemblerBoundary)) ∧
  (∀ (s : State) (ended : Word16) (rest : List Word16), s.notices.streamEngine = ended :: rest →
    s.streamEngineBoundary =
      { s with
          notices := { s.notices with streamEngine := rest }
          streams := Vector.ofFn fun i : Fin 64 => s.streams[i].map fun (c : StreamCtx) => (c.boundary i ended).1 }.emit
        ((List.finRange 64).flatMap fun i : Fin 64 => match s.streams[i] with
          | some c => (StreamCtx.boundary c i ended).2
          | none => [])) ∧
  ∀ (c : StreamCtx) (i : Fin 64) (ended : Word16),
    (c.state ≠ .active → c.boundary i ended = (c, [])) ∧
    (c.state = .active →
      ∃ n : Nat, n = (if c.config.staleLimit = 0 then c.run.cyclesSince else bumpTo 255 c.run.cyclesSince) ∧
      ∃ turns : Bool, (turns = true ↔ c.config.staleLimit ≠ 0 ∧ n = c.config.staleLimit ∧ c.run.stale = false) ∧
      ∃ early : List Effect,
        early = (if turns = true then [.add (.stale i c.run.elapsed), .raise .stale] else []) ∧
        (c.config.integrator = .cycle → c.boundary i ended =
          ({ c with run := { c.run with
              cyclesSince := n, stale := c.run.stale || turns,
              sum := 0, sumCount := 0, windowCount := 0, overflow := false } },
            early ++ [.add (.summary i true c.run.overflow c.run.sum c.run.sumCount ended
              (if c.config.intervalInSummary then c.run.lastInterval else 0))])) ∧
        (c.config.integrator = .off → c.boundary i ended =
          ({ c with run := { c.run with cyclesSince := n, stale := c.run.stale || turns } }, early)) ∧
        ∀ k align, c.config.integrator = .count k align → c.boundary i ended =
          ({ c with run :=
              if c.run.waiting then { c.run with
                cyclesSince := n, stale := c.run.stale || turns, waiting := false,
                sum := 0, sumCount := 0, windowCount := 0, overflow := false }
              else { c.run with cyclesSince := n, stale := c.run.stale || turns } }, early))) ∧
  (∀ (s : State) (n : Nat), s.notices.assembler = n + 1 →
    (∀ f, s.queue.openFrame = some f → s.assemblerBoundary = { s with
      notices := { s.notices with assembler := n }
      queue := { s.queue with
        closed := s.queue.closed ++ [{ f with flags := { f.flags with boundary := true } }], openFrame := none } }) ∧
    (s.queue.openFrame = none → s.assemblerBoundary = { s with notices := { s.notices with assembler := n } }))

/-! ## The slot walk and the polls -/

/-- A waiting beacon begins when the port is ready and the engine RUNNING: the frame to address 127, of kind BEACON,
with the cycle number as its payload. Its end returns the port to IDLE with the turn gap started, and makes a STOPPING
engine HALTED, which closes the open report frame with HALT. A field frame is ADDR, CTRL, LEN, the payload and the CRC over
all of them. -/
def Obligations.BeaconIsSent : Prop :=
  (∀ (addr ctrl : Byte) (payload covered : List Byte), covered = addr :: ctrl :: nat16 payload.length ++ payload →
    fieldFrame addr ctrl payload = covered ++ be16 (crc16 covered)) ∧
  (∀ (s : State) (cycle : Word16), s.live → s.walks → s.sched.beacon = some cycle →
    exec .beaconBegin s = .next (s.settle { s with
      sched := { s.sched with beacon := none }
      port := { s.port with
        state := .sending { beacon := true, bytes := fieldFrame 127 1 (be16 cycle) }
        fldDe := true } })) ∧
  ∀ (s : State) (frame : FieldFrame), s.live → s.port.state = .sending frame → frame.beacon = true →
    (s.timer.engine ≠ .stopping → exec .beaconSent s = .next (s.settle { s with
      port :=
        { state := .idle, exchange := none, replyTimer := none,
          turnGap := if s.timer.timing.turnGap = 0 then none else some s.timer.timing.turnGap, fldDe := false } })) ∧
    (s.timer.engine = .stopping → exec .beaconSent s = .next (s.settle { s with
      timer := { s.timer with engine := .halted }
      port :=
        { state := .idle, exchange := none, replyTimer := none,
          turnGap := if s.timer.timing.turnGap = 0 then none else some s.timer.timing.turnGap, fldDe := false }
      queue := s.queue.close fun flags => { flags with halt := true } }))

/-- SLOT_EXAMINE with the port ready, the engine RUNNING and no beacon waiting: the first slot from the position on
that is not skipped is taken, the position advances past it, and the POLL of its node is begun, with G the inverse of
Throttled; when every slot is skipped the position comes to the end of the list and nothing else changes. A slot is skipped
when its entry is FREE, and for a DOWN entry unless ProbeCountdown is 0 and the node stands at no earlier place of the list. -/
def Obligations.SlotWalkTakesFirstPollingSlot : Prop :=
  (∀ (s : State) (place : Nat) (node : Fin 32), s.skipsSlot place node = true ↔
    s.nodes[node] = none ∨ ∃ e, s.nodes[node] = some e ∧ e.state = .down ∧
      ¬ (e.probeCountdown = 0 ∧ ∀ m, m < place → s.sched.active[m]? ≠ some node)) ∧
  ∀ s : State, s.live → s.walks → s.sched.beacon = none →
    (∀ (place : Nat) (node : Fin 32), s.sched.position ≤ place → s.sched.active[place]? = some node →
      s.skipsSlot place node = false →
      (∀ (m : Nat) (n : Fin 32), s.sched.position ≤ m → m < place → s.sched.active[m]? = some n →
        s.skipsSlot m n = true) →
      ∃ e, s.nodes[node] = some e ∧ exec .slotExamine s = .next (s.settle { s with
        sched := { s.sched with position := place + 1 }
        port := { s.port with
          state := .sending { beacon := false, bytes := e.poll (!s.queue.throttled) }
          exchange := some
            { node := node, g := !s.queue.throttled, carried := e.attached.isSome, probe := e.state == .down }
          fldDe := true }
        nodes := s.nodes.set node (some e.polled) })) ∧
    (s.sched.position ≤ s.sched.active.length →
      (∀ (m : Nat) (n : Fin 32), s.sched.position ≤ m → s.sched.active[m]? = some n → s.skipsSlot m n = true) →
      exec .slotExamine s = .next (s.settle { s with
        sched := { s.sched with position := s.sched.active.length } }))

/-- A POLL carries the entry's Address, S equal to SendTx, A equal to ExpectRx, the G given, the kind POLL, and the
payload of the slot unless Held is set. When it is begun Polls counts it, and a carried payload's Attempts advances
with LastAttemptAnswered no; nothing else of the entry changes. -/
def Obligations.PollCarriesEntryFields : Prop :=
  ∀ (e : NodeEntry) (g : Bool),
    (e.held = true ∨ e.slot = none → e.attached = none) ∧
    (e.held = false → ∀ p, e.slot = some p → e.attached = some p) ∧
    (∃ ctrl : Byte, ∃ payload : List Byte,
      payload = (match e.attached with
        | some p => p.payload
        | none => []) ∧
      e.poll g = e.address :: ctrl :: nat16 payload.length ++ payload ++
        be16 (crc16 (e.address :: ctrl :: nat16 payload.length ++ payload)) ∧
      ctrl.getLsbD 7 = e.sendTx ∧ ctrl.getLsbD 6 = e.expectRx ∧ ctrl.getLsbD 5 = g ∧ ctrl.extractLsb' 0 5 = 2#5) ∧
    (e.attached = none → e.polled = { e with counters := { e.counters with polls := bump e.counters.polls } }) ∧
    ∀ p, e.attached = some p → e.polled = { e with
      slot := some { p with attempts := p.attempts + 1, lastAnswered := false }
      counters := { e.counters with polls := bump e.counters.polls } }

/-- The end of a POLL's transmission releases the line, enters AWAITING with ReplyTimeout ticks on the reply timer,
and makes NextThreshold the threshold in use. TURN_GAP_END stops a turn-gap timer that has counted its ticks. In
AWAITING two consecutive spacings of the violation class, neither of them silence, complete a start delimiter: the
reply timer stops and the port is RECEIVING at the start of the first bit, whether they are heard in one event or in
two. A spacing of another class and line silence leave the port AWAITING with the timer running, and the count of
consecutive violations begins again. -/
def Obligations.PollSentAwaitsAStartDelimiter : Prop :=
  ((∀ (s : State) (frame : FieldFrame), s.live → s.port.state = .sending frame → frame.beacon = false →
    exec .pollSent s = .next (s.settle { s with
      port := { s.port with
        state := .awaiting 0, replyTimer := some s.timer.timing.replyTimeout, fldDe := false }
      cal := { s.cal with thresholdInUse := s.cal.nextThreshold } })) ∧
  ∀ s : State, s.live → s.port.turnGap = some 0 →
    exec .turnGapEnd s = .next (s.settle { s with port := { s.port with turnGap := none } })) ∧
  (∀ s : State, s.live →
    ∀ t : Nat, t = s.cal.thresholdInUse + s.timer.timing.fieldDivide / 2 →
    (∀ a b : Spacing, s.port.state = .awaiting 0 → t ≤ a.len → a.len < 3 * s.timer.timing.fieldDivide →
      t ≤ b.len → b.len < 3 * s.timer.timing.fieldDivide →
      exec (.startDelimiter [a, b]) s = .next { s with port := { s.port with
        state := .receiving { atMiddle := false, bits := [], bytes := [] }, replyTimer := none } }) ∧
    (∀ (n : Nat) (a : Spacing), s.port.state = .awaiting n → t ≤ a.len → a.len < 3 * s.timer.timing.fieldDivide →
      (n = 0 → exec (.startDelimiter [a]) s = .next { s with port := { s.port with state := .awaiting 1 } }) ∧
      (1 ≤ n → exec (.startDelimiter [a]) s = .next { s with port := { s.port with
        state := .receiving { atMiddle := false, bits := [], bytes := [] }, replyTimer := none } })) ∧
    (∀ (n : Nat) (a : Spacing), s.port.state = .awaiting n → a.len < t ∨ 3 * s.timer.timing.fieldDivide ≤ a.len →
      exec (.startDelimiter [a]) s = .next { s with port := { s.port with state := .awaiting 0 } }) ∧
    ∀ n : Nat, s.port.state = .awaiting n →
      exec (.lineSilence []) s = .next { s with port := { s.port with state := .awaiting 0 } })

/-! ## Receptions -/

/-- REPLY_TIMEOUT: an AWAITING port whose reply timer has counted all its ticks ends the exchange with a timeout,
which is applied to the polled node's entry, and the exchange ends. The end of a reception. Every spacing measured
goes to the calibration window, which is the model's order where the last of them ends both (log entry 17, DEDUCED). A
complete frame is judged: a valid reply is applied to the polled node's entry, any other is spoiled; LEN above 600, a
code violation or silence make it spoiled (FieldFrameIsReadBack says which spacings do). The exchange then ends. A window that
fails and the outcome are two events for the frames that begin to wait together (log entry 3). -/
def Obligations.TimeoutOrReceptionEndsExchange : Prop :=
  (∀ (s : State) (n : Nat) (x : Exchange), s.live → s.port.state = .awaiting n → s.port.replyTimer = some 0 →
    s.port.exchange = some x →
    exec .replyTimeout s = .next (s.settle ((s.failedExchange x .timeout).endExchange x))) ∧
  (∀ (s : State) (rx : Reception) (x : Exchange) (e : NodeEntry) (sps : List Spacing) (h : Heard) (m : State), s.live →
    s.port.state = .receiving rx → s.port.exchange = some x → s.nodes[x.node] = some e →
    h = hearReply s.cal.thresholdInUse s.timer.timing.fieldDivide rx sps → m = h.measured.foldl State.measure s →
    (∀ bytes r, h.result = .complete bytes → judgeFrame e.address bytes = some r →
      exec (.replyComplete sps) s = .next (m.settle ((m.validReply x r).endExchange x))) ∧
    (∀ bytes, h.result = .complete bytes → judgeFrame e.address bytes = none →
      exec (.replyComplete sps) s = .next (m.settle ((m.failedExchange x .spoiled).endExchange x))) ∧
    (h.result = .spoiled →
      exec (.receptionAbort sps) s = .next (m.settle ((m.failedExchange x .spoiled).endExchange x))) ∧
    (∀ rx', h.result = .more rx' →
      exec (.lineSilence sps) s = .next (m.settle
        (({ m with port := { m.port with state := .receiving rx' } }.failedExchange x .spoiled).endExchange x))))

/-- The judgement of a complete frame: its CRC over ADDR through the last payload byte, its ADDR against the polled
Address with the reserved top bit ignored, and its kind DATA, IDLE or HOLD. When all three hold it is a valid reply
and hands on the kind, F and A, and for DATA S and the payload; when one fails it is spoiled. A two-byte field is read most
significant byte first. The CRC takes the covered bytes one after another, each most significant bit first, from the preset
0xFFFF and with the generator 0x1021. -/
def Obligations.CompleteFrameIsJudged : Prop :=
  (∀ hi lo : Byte, (word16 hi lo).toNat = 256 * hi.toNat + lo.toNat) ∧ crc16 [] = 0xFFFF ∧
  (∀ (bytes : List Byte) (b : Byte), crc16 (bytes ++ [b]) =
    ((List.range 8).map fun j => b.getLsbD (7 - j)).foldl (fun (reg : Word16) (bit : Bool) =>
      if reg.msb = bit then reg <<< 1 else (reg <<< 1) ^^^ 0x1021) (crc16 bytes)) ∧
  ∀ (address addr ctrl l1 l0 c1 c0 : Byte) (payload : List Byte), payload.length = (word16 l1 l0).toNat →
    ∀ good : Bool, (good = true ↔ word16 c1 c0 = crc16 (addr :: ctrl :: l1 :: l0 :: payload) ∧
      addr.extractLsb' 0 7 = address.extractLsb' 0 7) →
    ∀ reply : ReplyKind → NodeReply, (∀ kind, reply kind =
      { kind := kind, f := ctrl.getLsbD 5, a := ctrl.getLsbD 6 }) →
    ∀ frame, frame = addr :: ctrl :: l1 :: l0 :: payload ++ [c1, c0] →
      (good = false → judgeFrame address frame = none) ∧
      (good = true → ctrl.extractLsb' 0 3 = 3#3 → judgeFrame address frame =
        some (reply (.data (ctrl.getLsbD 7) payload))) ∧
      (good = true → ctrl.extractLsb' 0 3 = 4#3 → judgeFrame address frame = some (reply .idle)) ∧
      (good = true → ctrl.extractLsb' 0 3 = 5#3 → judgeFrame address frame = some (reply .hold)) ∧
      (good = true → ctrl.extractLsb' 0 3 ≠ 3#3 → ctrl.extractLsb' 0 3 ≠ 4#3 → ctrl.extractLsb' 0 3 ≠ 5#3 →
        judgeFrame address frame = none)

/-- A spacing measured marks its bin 1..63, or counts as Long from 64 on, and is counted. The 256th completes the
window: its bins are searched for the lowest empty bin B with occupied bins on both sides. With B at most FieldDivide
it becomes NextThreshold, the line is LOCKED and the fail record cleared; otherwise the failure is counted and LINE
raised, and from the second in a row on the line is SEEKING at the nominal threshold. The window's record becomes the
LastHistogram and a new empty window begins. CALIBRATION_WINDOW_COMPLETE measures the spacings of a reception, which
goes on, or ends with its outcome; the outcome is then applied after the window (log entry 17, DEDUCED), as an event of its own
(log entry 3). A count with an upper end stays at it. -/
def Obligations.CalibrationWindowIsSearched : Prop :=
  (∀ top n : Nat, (n < top → bumpTo top n = n + 1) ∧ (top ≤ n → bumpTo top n = n)) ∧
  (∀ (s : State) (len : Nat) (bins : BitVec 64) (long : Nat),
    bins = (if 1 ≤ len ∧ len ≤ 63 then s.cal.bins ||| BitVec.ofNat 64 (2 ^ len) else s.cal.bins) →
    long = (if 64 ≤ len then s.cal.longCount + 1 else s.cal.longCount) →
    (s.cal.spacingCount < 255 → s.measure len = { s with cal := { s.cal with
      bins := bins, longCount := long, spacingCount := s.cal.spacingCount + 1 } }) ∧
    (s.cal.spacingCount = 255 →
      (∀ b : Nat, b < 64 → bins.getLsbD b = false → (∃ c, c < b ∧ bins.getLsbD c = true) →
        (∃ c, b < c ∧ c < 64 ∧ bins.getLsbD c = true) →
        (∀ b', b' < b → bins.getLsbD b' = true ∨ ∀ c, c < b' → bins.getLsbD c = false) →
        b ≤ s.timer.timing.fieldDivide →
        s.measure len = { s with cal := { s.cal with
          line := .locked, nextThreshold := b, bins := 0, longCount := 0, spacingCount := 0, lastBins := bins,
          lastLong := long, lastFail := false, consecutiveFails := 0 } }) ∧
      ((∀ b : Nat, b ≤ s.timer.timing.fieldDivide → b < 64 → bins.getLsbD b = false →
          (∃ c, c < b ∧ bins.getLsbD c = true) → ¬ ∃ c, b < c ∧ c < 64 ∧ bins.getLsbD c = true) →
        ∃ fails : Nat, fails = bumpTo 255 s.cal.consecutiveFails ∧
        s.measure len = s.settle ({ s with cal := { s.cal with
          line := if 2 ≤ fails then .seeking else s.cal.line
          nextThreshold := if 2 ≤ fails then 3 * s.timer.timing.fieldDivide / 4 else s.cal.nextThreshold
          bins := 0, longCount := 0, spacingCount := 0, lastBins := bins, lastLong := long, lastFail := true
          consecutiveFails := fails, fails := bump s.cal.fails } }.raise .line)))) ∧
  ∀ (s : State) (rx : Reception) (x : Exchange) (e : NodeEntry) (sps : List Spacing) (h : Heard) (m : State), s.live →
    s.port.state = .receiving rx → s.port.exchange = some x → s.nodes[x.node] = some e →
    h = hearReply s.cal.thresholdInUse s.timer.timing.fieldDivide rx sps → m = h.measured.foldl State.measure s →
    (∀ rx', h.result = .more rx' → exec (.calibrationWindowComplete sps) s =
      .next { m with port := { m.port with state := .receiving rx' } }) ∧
    (∀ bytes r, h.result = .complete bytes → judgeFrame e.address bytes = some r →
      exec (.calibrationWindowComplete sps) s = .next (m.settle ((m.validReply x r).endExchange x))) ∧
    (h.result = .spoiled ∨ (∃ bytes, h.result = .complete bytes ∧ judgeFrame e.address bytes = none) →
      exec (.calibrationWindowComplete sps) s = .next (m.settle ((m.failedExchange x .spoiled).endExchange x)))

/-! ## Exchange outcomes at the node entry -/

/-- The end of an exchange: the port is IDLE with its turn gap started, a probe's countdown is reloaded with
ProbeInterval, and a STOPPING engine becomes HALTED, which closes the open report frame with HALT. A frame that is closed
goes behind the closed ones with its new flags; without an open frame nothing is closed. -/
def Obligations.ExchangeEndReleasesThePort : Prop :=
  (∀ (q : UplinkQueue) (flags : CloseFlags → CloseFlags), (q.openFrame = none → q.close flags = q) ∧
    ∀ f, q.openFrame = some f → q.close flags =
      { q with closed := q.closed ++ [{ f with flags := flags f.flags }], openFrame := none }) ∧
  ∀ (s : State) (x : Exchange), ∃ nodes : Vector (Option NodeEntry) 32,
    (∀ i : Fin 32, nodes[i] =
      if x.probe = true ∧ i = x.node then
        s.nodes[i].map fun e => { e with probeCountdown := s.timer.timing.probeInterval }
      else s.nodes[i]) ∧
    ∃ port : FieldPort, port =
      { state := .idle, exchange := none, replyTimer := none,
        turnGap := if s.timer.timing.turnGap = 0 then none else some s.timer.timing.turnGap, fldDe := false } ∧
    (s.timer.engine ≠ .stopping → s.endExchange x = { s with port := port, nodes := nodes }) ∧
    (s.timer.engine = .stopping → s.endExchange x = { s with
      timer := { s.timer with engine := .halted }, port := port, nodes := nodes,
      queue := s.queue.close fun flags => { flags with halt := true } })

/-- A failed exchange. It counts in Timeouts or Spoiled. A DOWN node's entry changes nowhere else. Below RetryLimit an
UP or SUSPECT node is SUSPECT and an UNKNOWN one stays UNKNOWN, with RetryCount advanced; a carried payload whose
Attempts stand at DeliverLimit is then EXPIRED with Resync set, and otherwise the slot is kept. The other entries keep
their values. -/
def Obligations.FailedExchangeAdvancesRetryCount : Prop :=
  ∀ (s : State) (x : Exchange) (how : Failure) (e : NodeEntry), s.nodes[x.node] = some e →
    ∃ counters : NodeCounters,
      (how = .timeout → counters = { e.counters with timeouts := bump e.counters.timeouts }) ∧
      (how = .spoiled → counters = { e.counters with spoiled := bump e.counters.spoiled }) ∧
      (e.state = .down → s.failedExchange x how =
        { s with nodes := s.nodes.set x.node (some { e with counters := counters }) }) ∧
      (e.state ≠ .down → e.retryCount + 1 < s.timer.timing.retryLimit →
        ∃ state : NodeState, (e.state = .unknown → state = .unknown) ∧ (e.state ≠ .unknown → state = .suspect) ∧
        ((∀ p, e.slot = some p → x.carried = true → p.attempts ≠ s.timer.timing.deliverLimit) →
          s.failedExchange x how = { s with nodes := s.nodes.set x.node (some { e with
            state := state, retryCount := e.retryCount + 1, counters := counters }) }) ∧
        (∀ p, e.slot = some p → x.carried = true → p.attempts = s.timer.timing.deliverLimit →
          s.failedExchange x how = { s with nodes := s.nodes.set x.node (some { e with
            state := state, retryCount := e.retryCount + 1, counters := counters, slot := none,
            resync := some p.tag }) }.emit
              [.add (.delivery x.node p.tag .expired p.attempts), .raise .delivery]))

/-- The failed exchange that brings RetryCount to RetryLimit makes the node DOWN, in this order: State DOWN with
ProbeCountdown at ProbeInterval, the NODE entry (DOWN, LIMIT), the NODE flag, the suspension of the node's ACTIVE
streams with their RELEASE entries in ascending stream number, and the payload's NODE_DOWN outcome, with Resync set
when it was attempted. A stream put aside ends a standing trip and gives up its window; the RELEASE of a standing trip carries
its direction, the cause and the value 0, and without one there is none. -/
def Obligations.RetryLimitMakesNodeDown : Prop :=
  (∀ (c : StreamCtx) (state : StreamState) (run : StreamRun),
    run = { c.run with sum := 0, sumCount := 0, windowCount := 0, overflow := false } →
    (c.run.cmpState = .inside → c.setAside state = { c with state := state, run := run }) ∧
    (c.run.cmpState ≠ .inside → c.setAside state = { c with
      state := state, run := { run with cmpState := .inside, beyondCount := 0, beyondDir := none } })) ∧
  (∀ (r : StreamRun) (i : Fin 64) (cause : ReleaseCause),
    (r.cmpState = .inside → r.releaseFor i cause = []) ∧
    (r.cmpState = .above → r.releaseFor i cause = [.add (.release i .high cause 0)]) ∧
    (r.cmpState = .below → r.releaseFor i cause = [.add (.release i .low cause 0)])) ∧
  ∀ (s : State) (x : Exchange) (how : Failure) (e : NodeEntry) (counters : NodeCounters) (s1 : State),
    s.nodes[x.node] = some e → e.state ≠ .down → s.timer.timing.retryLimit ≤ e.retryCount + 1 →
    (how = .timeout → counters = { e.counters with timeouts := bump e.counters.timeouts }) →
    (how = .spoiled → counters = { e.counters with spoiled := bump e.counters.spoiled }) →
    s1 = ({ s with nodes := s.nodes.set x.node (some { e with
        state := .down, retryCount := s.timer.timing.retryLimit, probeCountdown := s.timer.timing.probeInterval
        counters := counters }) }.emit
          [.add (.nodeDown x.node), .raise .node]).eachStream (fun (i : Fin 64) (c : StreamCtx) =>
        if c.config.node = x.node ∧ c.state = StreamState.active then
          (c.setAside .suspended, c.run.releaseFor i .suspend) else (c, [])) →
    (e.slot = none → s.failedExchange x how = s1) ∧
    (∀ p, e.slot = some p → s.failedExchange x how =
      (s1.modifyNode x.node fun e => { e with
          slot := none, resync := if 0 < p.attempts then some p.tag else e.resync }).emit
        [.add (.delivery x.node p.tag .nodeDown p.attempts), .raise .delivery])

/-! ## The stages of a valid reply -/

/-- Stage 1 of a valid reply: RetryCount is 0 and the State UP, with the NODE entry that the State before and the F
bit give: FIRST from UNKNOWN, RECOVERED from DOWN, RESTART with F = 1 from UP or SUSPECT, and none otherwise. For a
node that was DOWN each SUSPENDED stream bound to it is then restarted and ACTIVE, after the RELEASE of a standing
trip. -/
def Obligations.ValidReplyMakesNodeUp : Prop :=
  ∀ (s : State) (x : Exchange) (r : NodeReply) (e : NodeEntry), s.nodes[x.node] = some e →
    ∀ up : State, up = { s with nodes := s.nodes.set x.node (some { e with state := .up, retryCount := 0 }) } →
    (e.state = .unknown → s.stageLiveness x.node e.state r.f = up.emit [.add (.nodeUp x.node .first)]) ∧
    ((e.state = .up ∨ e.state = .suspect) → r.f = true →
      s.stageLiveness x.node e.state r.f = up.emit [.add (.nodeUp x.node .restart)]) ∧
    ((e.state = .up ∨ e.state = .suspect) → r.f = false → s.stageLiveness x.node e.state r.f = up) ∧
    (e.state = .down → s.stageLiveness x.node e.state r.f =
      (up.emit [.add (.nodeUp x.node .recovered)]).eachStream (fun (i : Fin 64) (c : StreamCtx) =>
        if c.config.node = x.node ∧ c.state = StreamState.suspended then
          ({ state := .active, config := c.config, run := StreamRun.fresh c.config }, c.run.releaseFor i .restart)
        else (c, [])))

/-- A valid reply is applied in the stages' order: liveness, the restart indication, the hold record, the A bit, and
for DATA the DATA stages. With F = 1 ExpectRx and SendTx become 0, Resync is cleared, a payload's Attempts become 0,
and unless the node was DOWN its ACTIVE streams are restarted; a HOLD sets Held and counts in Holds and HoldCount, and
IDLE or DATA clear them. -/
def Obligations.ValidReplyRunsItsStages : Prop :=
  (∀ (s : State) (x : Exchange) (r : NodeReply) (e : NodeEntry) (s1 s2 s3 s4 : State), s.nodes[x.node] = some e →
    s1 = s.stageLiveness x.node e.state r.f → s2 = s1.stageRestart x.node e.state r.f →
    s3 = s2.modifyNode x.node (·.holdRecord r.kind) → s4 = s3.stageA x.node r.kind r.a x.carried →
    (∀ sBit payload, r.kind = .data sBit payload → s.validReply x r = s4.stageData x.node x.g sBit payload) ∧
    (r.kind = .idle ∨ r.kind = .hold → s.validReply x r = s4)) ∧
  (∀ (s : State) (i : Fin 32) (before : NodeState), s.stageRestart i before false = s) ∧
  (∀ (s : State) (i : Fin 32) (before : NodeState) (reset : State),
    reset = (s.modifyNode i fun e => { e with
      expectRx := false, sendTx := false, resync := none,
      slot := e.slot.map fun p => { p with attempts := 0 } }) →
    (before = .down → s.stageRestart i before true = reset) ∧
    (before ≠ .down → s.stageRestart i before true =
      reset.eachStream (fun (k : Fin 64) (c : StreamCtx) =>
        if c.config.node = i ∧ c.state = StreamState.active then
          ({ state := .active, config := c.config, run := StreamRun.fresh c.config }, c.run.releaseFor k .restart)
        else (c, [])))) ∧
  ∀ e : NodeEntry,
    e.holdRecord .hold = { e with
      held := true, holdCount := bumpTo 255 e.holdCount
      counters := { e.counters with holds := bump e.counters.holds } } ∧
    e.holdRecord .idle = { e with held := false, holdCount := 0 } ∧
    ∀ sBit payload, e.holdRecord (.data sBit payload) = { e with held := false, holdCount := 0 }

/-- The fourth stage of a valid reply: when the exchange's POLL carried the payload and the slot is still present,
LastAttemptAnswered becomes yes, and the A bit is then evaluated, row by row of Table 9-1, with REFUSED tested before
EXPIRED. The entry named is the polled node's. -/
def Obligations.ABitSettlesTheDownlink : Prop :=
  ∀ (s : State) (i : Fin 32) (e : NodeEntry) (kind : ReplyKind) (a : Bool), s.nodes[i] = some e →
    ∀ put : NodeEntry → State, (∀ e', put e' = { s with nodes := s.nodes.set i (some e') }) →
    (∀ answered : NodeEntry, answered = { e with slot := e.slot.map fun p => { p with lastAnswered := true } } →
      s.stageA i kind a true = (put answered).evaluateA i answered kind a) ∧
    s.stageA i kind a false = s.evaluateA i e kind a ∧
    ∀ error : State, error = (put { e with counters := { e.counters with
      protocolErrors := bump e.counters.protocolErrors } }).raise .proto →
    (∀ p, e.slot = some p →
      (a ≠ e.sendTx → 0 < p.attempts → s.evaluateA i e kind a =
        (put { e with slot := none, sendTx := !e.sendTx }).emit [.add (.delivery i p.tag .delivered p.attempts)]) ∧
      (a ≠ e.sendTx → p.attempts = 0 → s.evaluateA i e kind a = error) ∧
      (a = e.sendTx → kind = .hold → s.timer.timing.holdLimit ≤ e.holdCount → s.evaluateA i e kind a =
        (put { e with slot := none }).emit [.add (.delivery i p.tag .refused p.attempts), .raise .delivery]) ∧
      (a = e.sendTx → ¬ (kind = .hold ∧ s.timer.timing.holdLimit ≤ e.holdCount) →
        p.attempts = s.timer.timing.deliverLimit → p.lastAnswered = true → s.evaluateA i e kind a =
        (put { e with slot := none }).emit [.add (.delivery i p.tag .expired p.attempts), .raise .delivery]) ∧
      (a = e.sendTx → ¬ (kind = .hold ∧ s.timer.timing.holdLimit ≤ e.holdCount) →
        ¬ (p.attempts = s.timer.timing.deliverLimit ∧ p.lastAnswered = true) → s.evaluateA i e kind a = s)) ∧
    (e.slot = none → ∀ tag, e.resync = some tag →
      (a ≠ e.sendTx → s.evaluateA i e kind a =
        (put { e with resync := none, sendTx := !e.sendTx }).emit [.add (.delivery i tag .late 0)]) ∧
      (a = e.sendTx → s.evaluateA i e kind a = put { e with resync := none })) ∧
    (e.slot = none → e.resync = none →
      (a ≠ e.sendTx → s.evaluateA i e kind a = error) ∧ (a = e.sendTx → s.evaluateA i e kind a = s))

/-- A DATA reply that answers a POLL with G = 0 is a protocol error, counted and raised, and is otherwise handled as
with G = 1. A malformed block list is a protocol error of its own and nothing else happens; a well-formed one with S
equal to ExpectRx is accepted, with its blocks dispatched in order, and one with S different is a duplicate. A block
list holds 1 to 512 bytes and at most eight blocks, each a header of three bytes with the kind, the tag and a count,
and the content that the count gives; a BITS count is a multiple of 8 up to 2048, a WORDS count at most 128, neither
is 0, and no byte is left over. -/
def Obligations.DataReplyIsCheckedAndSequenced : Prop :=
  ((∀ payload : List Byte, (payload.length = 0 ∨ 512 < payload.length → blockList payload = none) ∧
    (1 ≤ payload.length → payload.length ≤ 512 → blockList payload = readBlocks 8 payload) ∧
    (payload.length ≠ 0 → readBlocks 0 payload = none) ∧
    ∀ room : Nat, (payload.length = 0 → readBlocks room payload = some []) ∧
      (payload.length = 1 ∨ payload.length = 2 → readBlocks room payload = none)) ∧
  ∀ (room count content : Nat) (head c1 c0 : Byte) (rest : List Byte) (tag : Fin 8) (kind : Kind),
    count = (word16 c1 c0).toNat → (tag : Nat) = head.toNat % 8 →
    (kind = .bits ∧ head.getLsbD 7 = false ∧ content = count / 8) ∨
      (kind = .words ∧ head.getLsbD 7 = true ∧ content = 2 * count) →
    ∀ fits : Prop, (fits ↔ count ≠ 0 ∧ (kind = .bits → count % 8 = 0 ∧ count ≤ 2048) ∧ (kind = .words → count ≤ 128) ∧
      content ≤ rest.length) →
    (¬ fits → readBlocks (room + 1) (head :: c1 :: c0 :: rest) = none) ∧
    (fits → readBlocks (room + 1) (head :: c1 :: c0 :: rest) = (readBlocks room (rest.drop content)).map
      ({ tag := tag, kind := kind, content := rest.take content } :: ·))) ∧
  ∀ (s : State) (i : Fin 32) (sBit : Bool) (payload : List Byte) (e : NodeEntry), s.nodes[i] = some e →
    ∀ put : NodeCounters → Bool → State,
      (∀ c rx, put c rx = { s with nodes := s.nodes.set i (some { e with counters := c, expectRx := rx }) }) →
    (s.stageData i false sBit payload = ((put { e.counters with
        protocolErrors := bump e.counters.protocolErrors } e.expectRx).raise .proto).stageData i true sBit payload) ∧
    (blockList payload = none → s.stageData i true sBit payload =
      (put { e.counters with protocolErrors := bump e.counters.protocolErrors } e.expectRx).raise .proto) ∧
    (∀ blocks, blockList payload = some blocks → sBit = e.expectRx → s.stageData i true sBit payload =
      blocks.foldl (fun s b => s.dispatch i b)
        (put { e.counters with accepted := bump e.counters.accepted } (!e.expectRx))) ∧
    (∀ blocks, blockList payload = some blocks → sBit ≠ e.expectRx → s.stageData i true sBit payload =
      put { e.counters with duplicates := bump e.counters.duplicates } e.expectRx)

/-! ## Streams -/

/-- A block is dispatched by its (node index, tag) pair, to the stream whose configuration holds it; a pair that no
stream holds is bound to none. Without a stream, or with an IDLE one, it is discarded and counted in the node's
Unclaimed counter; of the wrong kind it is counted in the stream's KindMismatch; otherwise the ACTIVE stream takes it:
Blocks counts it, the interval meter records it, Stale and CyclesSinceBlock are cleared, and its input values pass one
at a time through the decimation filter and then the comparator filter. A bit, most significant first in each byte, is
+1 or −1 for the first and 1 or 0 for the second; a word, high byte first, is its signed value for both. An output of
the decimation filter is dealt with, and one of the comparator filter judged, when its filter makes one; with the
comparator OFF nothing is done there. -/
def Obligations.BlockIsDispatchedToItsStream : Prop :=
  (∀ (s : State) (node : Fin 32) (tag : Fin 8),
    (s.streamsOk → ∀ i : Fin 64, s.bound node tag = some i ↔
      ∃ c, s.streams[i] = some c ∧ c.config.node = node ∧ c.config.tag = tag) ∧
    (s.bound node tag = none ↔
      ∀ (i : Fin 64) (c : StreamCtx), s.streams[i] = some c → ¬ (c.config.node = node ∧ c.config.tag = tag))) ∧
  ((∀ (tag : Fin 8) (content : List Byte), ({ tag := tag, kind := .bits, content := content } : Block).inputs =
      (content.flatMap fun b => (List.range 8).map fun j => b.getLsbD (7 - j)).map fun bit =>
        if bit then (1, 1) else (-1, 0)) ∧
    (∀ (tag : Fin 8) (words : List Word16),
      ({ tag := tag, kind := .words, content := words.flatMap be16 } : Block).inputs =
        words.map fun w => (w.toInt, w.toInt))) ∧
  (∀ (r : StreamRun) (i : Fin 64) (c : StreamConfig) (cycle : Word16) (x : Int),
    (∀ f, r.filter.push c.k c.r x = (f, none) → r.decimate i c cycle x = ({ r with filter := f }, [])) ∧
    (∀ f out, r.filter.push c.k c.r x = (f, some out) →
      r.decimate i c cycle x = StreamRun.decimated { r with filter := f } i c cycle out) ∧
    (c.comparator = none → r.compare i c x = (r, [])) ∧
    ∀ m, c.comparator = some m →
      (∀ f, r.cmpFilter.push m.kc m.rc x = (f, none) → r.compare i c x = ({ r with cmpFilter := f }, [])) ∧
      (∀ f out, r.cmpFilter.push m.kc m.rc x = (f, some out) →
        r.compare i c x = StreamRun.compared { r with cmpFilter := f } i m out)) ∧
  ∀ (s : State) (node : Fin 32) (b : Block),
    (s.bound node b.tag = none →
      s.dispatch node b = { s with unclaimed := s.unclaimed.set node (bump s.unclaimed[node]) }) ∧
    ∀ (i : Fin 64) (c : StreamCtx), s.bound node b.tag = some i → s.streams[i] = some c →
      (c.state ≠ .active →
        s.dispatch node b = { s with unclaimed := s.unclaimed.set node (bump s.unclaimed[node]) }) ∧
      (c.state = .active → b.kind ≠ c.config.kind → s.dispatch node b =
        { s with
          streams := s.streams.set i
            (some { c with run := { c.run with kindMismatch := bump c.run.kindMismatch } }) }) ∧
      (c.state = .active → b.kind = c.config.kind →
        ∀ started : StreamRun, started = { c.run with
          blocks := bump c.run.blocks, stale := false, cyclesSince := 0, hasStamp := true, elapsed := 0,
          elapsedOver := false
          lastInterval := if c.run.hasStamp then c.run.elapsed else c.run.lastInterval
          intervalOverflow := c.run.intervalOverflow || (c.run.hasStamp && c.run.elapsedOver) } →
        ∀ taken : StreamRun × List Effect, taken = b.inputs.foldl
          (fun acc x =>
            let first := acc.1.decimate i c.config s.timer.cycleNumber x.1
            let second := first.1.compare i c.config x.2
            (second.1, acc.2 ++ (first.2 ++ second.2))) (started, []) →
        s.dispatch node b =
          { s with streams := s.streams.set i (some { c with run := taken.1 }) }.emit taken.2)

/-- The filter of order k and ratio R. Every input advances the phase and joins the history, and the R-th since the
last output makes an output: the sum, over the distances j from 0 to k·(R−1), of the input at distance j times the
number of ways in which j is an ordered sum of k whole numbers in 0..R−1. These weights are symmetric, their sum is
R^k, and with R = 1 the output equals its input. -/
def Obligations.FilterOutputIsWeightedSum : Prop :=
  (∀ (f : FilterState) (k r : Nat) (x : Int), 1 ≤ k → 1 ≤ r → f.history.length = k * (r - 1) → f.phase < r →
    ∃ history : List Int, history = (x :: f.history).take (k * (r - 1)) ∧
    (f.phase + 1 < r → f.push k r x = ({ history := history, phase := f.phase + 1 }, none)) ∧
    (f.phase + 1 = r → f.push k r x = ({ history := history, phase := 0 },
      some (((List.range (k * (r - 1) + 1)).map fun j =>
        (filterWays k r j : Int) * ((x :: f.history).getD j 0)).sum))) ∧
    (r = 1 → (f.push k r x).2 = some x)) ∧
  (∀ k r j : Nat, 1 ≤ r → j ≤ k * (r - 1) → filterWays k r j = filterWays k r (k * (r - 1) - j)) ∧
  ∀ k r : Nat, 1 ≤ r → ((List.range (k * (r - 1) + 1)).map (filterWays k r)).sum = r ^ k

/-- The SHORT form: the output divided by 2^Shift and rounded toward minus infinity; within −32768..32767 it is the
entry's value with C clear; beyond, the nearer end of the range with C set, and SATURATE is raised, before the entry
is added (log entry 10, DEDUCED). The LONG form carries the exact output with C clear; with the output OFF no entry is
formed. An output takes the sequence number, counts in Outputs and the unsettled countdown, forms its SAMPLE with U
set while the countdown stands above 0, and is then handed to the integrator exactly. -/
def Obligations.ShortSampleSaturates : Prop :=
  ∀ (i : Fin 64) (shift : Nat) (seq : Byte) (unsettled : Bool) (out v : Int), v = out / (2 : Int) ^ shift →
    (-32768 ≤ v → v ≤ 32767 → sampleEffects i (.short shift) seq unsettled out =
      [.add (.sample i seq unsettled false false v)]) ∧
    (32767 < v → sampleEffects i (.short shift) seq unsettled out =
      [.raise .saturate, .add (.sample i seq unsettled true false 32767)]) ∧
    (v < -32768 → sampleEffects i (.short shift) seq unsettled out =
      [.raise .saturate, .add (.sample i seq unsettled true false (-32768))]) ∧
    sampleEffects i .long seq unsettled out = [.add (.sample i seq unsettled false true out)] ∧
    sampleEffects i .off seq unsettled out = [] ∧
    ∀ (r : StreamRun) (c : StreamConfig) (cycle : Word16),
      r.decimated i c cycle out =
        ((StreamRun.integrate { r with
            seq := r.seq + 1, outputs := bump r.outputs, countdown := r.countdown - 1 } i c cycle out).1,
          sampleEffects i c.output r.seq (decide (0 < r.countdown)) out ++
            (StreamRun.integrate { r with
              seq := r.seq + 1, outputs := bump r.outputs, countdown := r.countdown - 1 } i c cycle out).2)

/-- The exact total of Sum and the output becomes the new Sum, counted in SumCount, when it lies in the signed 32-bit
range; otherwise Sum is the output alone, SumCount 1, the overflow mark set and SATURATE raised. WindowCount counts
the output in either case, and an output in the range leaves Sum in the range. A 16-bit count stays at 65535. -/
def Obligations.IntegratorAddsOrOverflows : Prop :=
  (∀ count : Word16, (count.toNat < 65535 → (bump count).toNat = count.toNat + 1) ∧
    (count.toNat = 65535 → bump count = count)) ∧
  ∀ (r : StreamRun) (out total : Int), total = r.sum + out →
    (-2147483648 ≤ total → total ≤ 2147483647 → r.addOutput out =
      ({ r with sum := total, sumCount := bump r.sumCount, windowCount := bump r.windowCount }, [])) ∧
    (total < -2147483648 ∨ 2147483647 < total → r.addOutput out =
      ({ r with sum := out, sumCount := 1, overflow := true, windowCount := bump r.windowCount },
        [.raise .saturate])) ∧
    (-2147483648 ≤ out → out ≤ 2147483647 →
      -2147483648 ≤ (r.addOutput out).1.sum ∧ (r.addOutput out).1.sum ≤ 2147483647)

/-- In COUNT mode with the waiting mark clear, an output that brings WindowCount to N closes the window once it has been
added: a SUMMARY with the cycle number given is made from the window, and the window reopens empty. Before N the output is
only added, and while the waiting mark is set it is not integrated. In CYCLE mode every output is only added, and with the
integrator OFF nothing happens. -/
def Obligations.CountWindowClosesAtN : Prop :=
  ∀ (r : StreamRun) (i : Fin 64) (c : StreamConfig) (cycle : Word16) (out : Int),
    (c.integrator = .off → r.integrate i c cycle out = (r, [])) ∧
    (c.integrator = .cycle → r.integrate i c cycle out = r.addOutput out) ∧
    ∀ (n : Nat) (align : Bool), c.integrator = .count n align →
    (r.waiting = true → r.integrate i c cycle out = (r, [])) ∧
    (r.waiting = false → (bump r.windowCount).toNat ≠ n → r.integrate i c cycle out = r.addOutput out) ∧
    (r.waiting = false → (bump r.windowCount).toNat = n →
      ∀ w : StreamRun, w = (r.addOutput out).1 → r.integrate i c cycle out =
        ({ w with sum := 0, sumCount := 0, windowCount := 0, overflow := false },
          (r.addOutput out).2 ++ [.add (.summary i false w.overflow w.sum w.sumCount cycle
            (if c.intervalInSummary then w.lastInterval else 0))]))

/-- A comparator output judged in INSIDE: above High or below Low it is counted in its direction, from 1 when the
direction changes; within the limits the count is cleared. The output that brings the count to TripCount trips the
comparator: ABOVE or BELOW, an urgent TRIP entry with the output, the TRIP flag, and the count cleared. -/
def Obligations.ComparatorCountsAndTrips : Prop :=
  ∀ (r : StreamRun) (i : Fin 64) (m : ComparatorConfig) (out : Int), r.cmpState = .inside → m.low < m.high →
    (m.low ≤ out → out ≤ m.high → r.compared i m out = ({ r with beyondCount := 0, beyondDir := none }, [])) ∧
    ∀ (dir : Direction) (state : ComparatorState) (count : Nat),
      (dir = .high ∧ state = .above ∧ m.high < out) ∨ (dir = .low ∧ state = .below ∧ out < m.low) →
      count = (if r.beyondDir = some dir then r.beyondCount + 1 else 1) →
      (count < m.tripCount →
        r.compared i m out = ({ r with beyondCount := count, beyondDir := some dir }, [])) ∧
      (m.tripCount ≤ count → r.compared i m out =
        ({ r with cmpState := state, beyondCount := 0, beyondDir := none },
          [.add (.trip i dir out), .raise .trip])) ∧
      (Entry.trip i dir out).urgent = true

/-- An output at or below High − Hysteresis, formed exactly, releases a HIGH trip, and one at or above Low +
Hysteresis a LOW one: a RELEASE with cause LEVEL and the output, INSIDE, and the same output is then judged in INSIDE.
Any other output leaves the trip standing without an entry. -/
def Obligations.ComparatorReleasesAtLevel : Prop :=
  ∀ (r : StreamRun) (i : Fin 64) (m : ComparatorConfig) (out : Int),
    (r.cmpState = .above → m.high - m.hysteresis < out → r.compared i m out = (r, [])) ∧
    (r.cmpState = .below → out < m.low + m.hysteresis → r.compared i m out = (r, [])) ∧
    ∀ inside : StreamRun, inside = { r with cmpState := .inside } →
      (r.cmpState = .above → out ≤ m.high - m.hysteresis → r.compared i m out =
        ((inside.compared i m out).1, .add (.release i .high .level out) :: (inside.compared i m out).2)) ∧
      (r.cmpState = .below → m.low + m.hysteresis ≤ out → r.compared i m out =
        ((inside.compared i m out).1, .add (.release i .low .level out) :: (inside.compared i m out).2))

/-! ## The uplink queue, the transmitter and the alerts -/

/-- An entry joins the open frame when that holds fewer than 32 entries and the occupancy with the entry stays within
4096; otherwise, with fewer than 64 frames and room for 6 bytes more, it opens a frame with the cycle number, clear
flags and DroppedSinceOpen, which then counts from 0; otherwise it is dropped, counted in its kind's loss counter and
in DroppedSinceOpen, and LOSS is raised. The frame is closed with FULL at 32 entries and with URGENT by an urgent
entry, and the Throttled mark is evaluated against the marks in every case. The sizes are 6 for a SHORT SAMPLE, 8 for
a LONG one, 14 for SUMMARY, 8 for TRIP and RELEASE, 4 for STALE and NODE, 6 for DELIVERY, and 6 more for a frame's header;
TRIP and RELEASE count in one loss counter, and every other kind in its own; TRIP and NODE DOWN are urgent and no other. The
effects of an event are taken one after another: an entry added, or a flag raised. An event over every stream replaces each
context and then takes their effects in ascending stream number. -/
def Obligations.EntryJoinsOpensOrIsDropped : Prop :=
  (∀ (s : State) (x : Effect) (rest : List Effect) (e : Entry) (f : Flag),
    s.emit [] = s ∧ s.emit (x :: rest) = (s.effect x).emit rest ∧ s.effect (.add e) = s.addEntry e ∧
    s.effect (.raise f) = s.raise f) ∧
  (∀ (s : State) (change : Fin 64 → StreamCtx → StreamCtx × List Effect) (streams : Vector (Option StreamCtx) 64)
    (effects : Fin 64 → List Effect),
    (∀ i : Fin 64, (s.streams[i] = none → streams[i] = none ∧ effects i = []) ∧
      ∀ c, s.streams[i] = some c → streams[i] = some (change i c).1 ∧ effects i = (change i c).2) →
    s.eachStream change = { s with streams := streams }.emit ((List.finRange 64).flatMap effects)) ∧
  (∀ f : ReportFrame, f.size = 6 + (f.entries.map Entry.size).sum) ∧
  (∀ q : UplinkQueue, q.occupancy = (q.frames.map ReportFrame.size).sum ∧
    (q.openFrame = none → q.frames = q.closed) ∧ ∀ f, q.openFrame = some f → q.frames = q.closed ++ [f]) ∧
  (∀ e : Entry, e.urgent = true ↔ (∃ i d v, e = .trip i d v) ∨ ∃ n, e = .nodeDown n) ∧
  (∀ (i : Fin 64) (n : Fin 32) (seq : Byte) (u c o cyc : Bool) (v : Int) (d : Direction) (cause : ReleaseCause)
    (a b w : Word16) (up : UpReason) (outcome : DeliveryOutcome) (attempts : Nat) (l : LossCounters),
    (∀ long, l.count (.sample i seq u c long v) = { l with sample := bump l.sample }) ∧
    l.count (.summary i cyc o v a b w) = { l with summary := bump l.summary } ∧
    l.count (.trip i d v) = { l with comparator := bump l.comparator } ∧
    l.count (.release i d cause v) = { l with comparator := bump l.comparator } ∧
    l.count (.stale i a) = { l with stale := bump l.stale } ∧
    l.count (.nodeUp n up) = { l with node := bump l.node } ∧ l.count (.nodeDown n) = { l with node := bump l.node } ∧
    l.count (.delivery n a outcome attempts) = { l with delivery := bump l.delivery } ∧
    (Entry.sample i seq u c false v).size = 6 ∧ (Entry.sample i seq u c true v).size = 8 ∧
    (Entry.summary i cyc o v a b w).size = 14 ∧ (Entry.trip i d v).size = 8 ∧ (Entry.release i d cause v).size = 8 ∧
    (Entry.stale i a).size = 4 ∧ (Entry.nodeUp n up).size = 4 ∧ (Entry.nodeDown n).size = 4 ∧
    (Entry.delivery n a outcome attempts).size = 6) ∧
  (∀ e : Entry, e.bytes.length = e.size) ∧
  ∀ (s : State) (e : Entry) (occupancy : Nat), occupancy = (s.queue.frames.map ReportFrame.size).sum →
    ∀ joins : Prop, (joins ↔ ∃ f, s.queue.openFrame = some f ∧ f.entries.length < 32 ∧ occupancy + e.size ≤ 4096) →
    ∀ opens : Prop, (opens ↔ s.queue.frames.length < 64 ∧ occupancy + 6 + e.size ≤ 4096) →
    ∀ placed : UplinkQueue → ReportFrame → UplinkQueue,
      (∀ q f, f.entries.length < 32 → e.urgent = false → placed q f = { q with openFrame := some f }) →
      (∀ q f, 32 ≤ f.entries.length ∨ e.urgent = true → placed q f = { q with
        openFrame := none
        closed := q.closed ++ [{ f with flags := { f.flags with
          full := f.flags.full || decide (32 ≤ f.entries.length), urgent := f.flags.urgent || e.urgent } }] }) →
    (∀ f, s.queue.openFrame = some f → joins →
      s.addEntry e = { s with queue := (placed s.queue { f with entries := f.entries ++ [e] }).evaluate }) ∧
    (¬ joins → opens → s.addEntry e = { s with queue := (placed
      { s.queue with closed := s.queue.frames, openFrame := none, droppedSinceOpen := 0 }
      { cycle := s.timer.cycleNumber, flags := ⟨false, false, false, false⟩,
        droppedBefore := s.queue.droppedSinceOpen, entries := [e] }).evaluate }) ∧
    (¬ joins → ¬ opens → s.addEntry e = { s with queue := { s.queue with
      droppedSinceOpen := bump s.queue.droppedSinceOpen, lost := s.queue.lost.count e }.evaluate }.raise .loss) ∧
    ∀ q : UplinkQueue,
      (q.highMark ≤ q.occupancy → q.evaluate = { q with throttled := true }) ∧
      (q.occupancy < q.highMark → q.occupancy ≤ q.lowMark → q.evaluate = { q with throttled := false }) ∧
      (q.lowMark < q.occupancy → q.occupancy < q.highMark → q.evaluate = q)

/-- TRANSMIT_BEGIN with the transmitter IDLE takes, of the frames that wait then (log entry 15, DEDUCED), the Reply
Slot's first, then the Alert Slot's, then a closed head frame of the queue, whose leaving has the Throttled mark
evaluated. Where frames that began to wait together stand first in that order, one of them is taken, and which is free
(log entry 3); a frame that began to wait otherwise is not passed over. Frames began to wait together when an event
found the transmitter IDLE with none waiting and left it IDLE with two or more: `State.settle` notes these, forgets them
in a transmission, and changes nothing else. The trunk frame sent is SYNC, LENGTH, TYPE, the body and the CRC; a REPLY
body is the opcode, the Reference, the status code and the results, a REPORT body its header and its entries, an ALERT
body the flags, the mask and the cycle number, and every entry has its layout. Each byte goes out between one start bit
and one stop bit (the order of the data bits on the wire: log entry 19). TRANSMIT_END returns the transmitter to IDLE. -/
def Obligations.TransmitterTakesWaitingFrames : Prop :=
  (∀ before after : State,
    (before.transmission ≠ none ∨ after.transmission ≠ none → before.settle after = { after with tied := [] }) ∧
    (before.transmission = none → after.transmission = none →
      (before.waiting ≠ [] → before.settle after = after) ∧
      (before.waiting = [] → 2 ≤ after.waiting.length → before.settle after = { after with tied := after.waiting }) ∧
      (before.waiting = [] → after.waiting.length < 2 → before.settle after = { after with tied := [] }))) ∧
  (∀ s : State,
    s.waiting = (if s.replySlot = none then [] else [.reply]) ++ (if s.status.alertSlot = none then [] else [.alert]) ++
      (if s.queue.closed = [] then [] else [.report]) ∧
    ∀ first rest, s.waiting = first ++ rest → (∀ src ∈ first, src ∈ s.tied) → (∀ src ∈ rest.head?, src ∉ s.tied) →
      (2 ≤ first.length → s.contenders = first) ∧ (first.length < 2 → s.contenders = [])) ∧
  ((∀ r : Reply, r.body = r.opcode :: be16 r.ref ++ r.status.code :: r.results) ∧
    Status.ok.code = 0 ∧ Status.busy.code = 1 ∧ Status.state.code = 2 ∧ Status.range.code = 3 ∧ Status.noent.code = 4 ∧
    Status.conflict.code = 5 ∧ Status.format.code = 6) ∧
  (∀ s : State, s.live → s.transmission = none →
    ∀ q : UplinkQueue, (∀ f rest, s.queue.closed = f :: rest → q = { s.queue with closed := rest }.evaluate) →
    ∀ takes : TxSource → Nat → Prop, (∀ src n, takes src n ↔
      (src = .reply → ∀ r, s.replySlot = some r → exec .transmitBegin s = .next (s.settle { s with
        replySlot := none, freeCount := n
        transmission := some { source := .reply, bytes := trunkFrame 0x81 r.body } })) ∧
      (src = .alert → ∀ a, s.status.alertSlot = some a → exec .transmitBegin s = .next (s.settle { s with
        status := { s.status with alertSlot := none }, freeCount := n
        transmission := some { source := .alert, bytes := trunkFrame 0x83 a.body } })) ∧
      (src = .report → ∀ f rest, s.queue.closed = f :: rest → exec .transmitBegin s = .next (s.settle { s with
        queue := q, freeCount := n
        transmission := some { source := .report, bytes := trunkFrame 0x82 f.body } }))) →
    (s.contenders = [] →
      (s.replySlot ≠ none → takes .reply s.freeCount) ∧
      (s.replySlot = none → s.status.alertSlot ≠ none → takes .alert s.freeCount) ∧
      (s.replySlot = none → s.status.alertSlot = none → takes .report s.freeCount)) ∧
    (s.contenders ≠ [] → ∃ src ∈ s.contenders, takes src (s.freeCount + 1))) ∧
  (∀ s : State, (∀ src ∈ s.contenders, src ∈ s.tied ∧ (src = .reply → s.replySlot ≠ none) ∧
      (src = .alert → s.status.alertSlot ≠ none ∧ (s.replySlot ≠ none → .reply ∈ s.tied)) ∧
      (src = .report → s.queue.closed ≠ [] ∧ (s.replySlot ≠ none → .reply ∈ s.tied) ∧
        (s.status.alertSlot ≠ none → .alert ∈ s.tied))) ∧
    (s.live → exec .transmitEnd s = .next (s.settle { s with transmission := none })) ∧
    (s.transmission = none → s.trunkDrive = []) ∧
    ∀ src bytes, s.transmission = some { source := src, bytes := bytes } →
      s.trunkDrive = bytes.flatMap fun b => [TrunkUnit.start, .data b, .stop]) ∧
  (∀ (type : Byte) (body covered : List Byte), covered = nat16 (1 + body.length) ++ type :: body →
    trunkFrame type body = 0xA5 :: covered ++ be16 (crc16 covered)) ∧
  (∀ (f : ReportFrame) (a : AlertFrame),
    f.body = be16 f.cycle ++ [nat8 f.entries.length,
      nat8 (f.flags.full.toNat + 2 * f.flags.urgent.toNat + 4 * f.flags.boundary.toNat + 8 * f.flags.halt.toNat)] ++
      be16 f.droppedBefore ++ f.entries.flatMap Entry.bytes ∧
    a.body = be16 (a.flags.setWidth 16) ++ be16 (a.mask.setWidth 16) ++ be16 a.cycle) ∧
  ∀ (i : Fin 64) (n : Fin 32) (seq : Byte) (u c o cyc : Bool) (v : Int) (a b w : Word16) (attempts : Nat),
    (Entry.sample i seq u c false v).bytes = [nat8 (0x10 + 2 * u.toNat + c.toNat), nat8 i, seq, 0] ++ int16 v ∧
    (Entry.sample i seq u c true v).bytes = [nat8 (0x18 + 2 * u.toNat + c.toNat), nat8 i, seq, 0] ++ int32 v ∧
    (Entry.summary i cyc o v a b w).bytes =
      [nat8 (0x20 + 8 * cyc.toNat + o.toNat), nat8 i, 0, 0] ++ int32 v ++ be16 a ++ be16 b ++ be16 w ∧
    (Entry.trip i .high v).bytes = [0x30, nat8 i, 0, 0] ++ int32 v ∧
    (Entry.trip i .low v).bytes = [0x31, nat8 i, 0, 0] ++ int32 v ∧
    (∀ (cause : ReleaseCause) (code : Byte),
      (cause = .level ∧ code = 0) ∨ (cause = .suspend ∧ code = 1) ∨ (cause = .disable ∧ code = 2) ∨
        (cause = .restart ∧ code = 3) →
      (Entry.release i .high cause v).bytes = [0x40, nat8 i, code, 0] ++ int32 v ∧
      (Entry.release i .low cause v).bytes = [0x41, nat8 i, code, 0] ++ int32 v) ∧
    (Entry.stale i a).bytes = [0x50, nat8 i] ++ be16 a ∧
    (Entry.nodeUp n .first).bytes = [0x60, nat8 n, 0, 0] ∧ (Entry.nodeUp n .recovered).bytes = [0x60, nat8 n, 1, 0] ∧
    (Entry.nodeUp n .restart).bytes = [0x60, nat8 n, 2, 0] ∧ (Entry.nodeDown n).bytes = [0x61, nat8 n, 3, 0] ∧
    ∀ (outcome : DeliveryOutcome) (code : Byte),
      (outcome = .delivered ∧ code = 0) ∨ (outcome = .expired ∧ code = 1) ∨ (outcome = .refused ∧ code = 2) ∨
        (outcome = .nodeDown ∧ code = 3) ∨ (outcome = .cancelled ∧ code = 4) ∨ (outcome = .late ∧ code = 5) →
      (Entry.delivery n a outcome attempts).bytes = [0x70, nat8 n] ++ be16 a ++ [code, nat8 attempts]

/-- A raise sets its flag and keeps the others and the mask; ALERT_N then stands exactly when a set flag is masked;
and when the alert was armed and a set flag is masked, an ALERT frame with the flags, the mask and the cycle number is
in the Alert Slot in place of any earlier one and the alert is disarmed, and otherwise the slot and the mark are
kept. The flags stand at their bits of Table 11-3. -/
def Obligations.RaiseDrivesAlert : Prop :=
  (Flag.trip.bit = 0 ∧ Flag.stale.bit = 1 ∧ Flag.node.bit = 2 ∧ Flag.proto.bit = 3 ∧ Flag.overrun.bit = 4 ∧
    Flag.loss.bit = 5 ∧ Flag.line.bit = 6 ∧ Flag.trunk.bit = 7 ∧ Flag.delivery.bit = 8 ∧ Flag.saturate.bit = 9) ∧
  ∀ (s : State) (f : Flag) (flags : BitVec 10), flags = s.status.flags ||| (1#10 <<< f.bit) →
    (s.status.armed = true → flags &&& s.status.mask ≠ 0 → s.raise f = { s with status := { s.status with
      flags := flags, alertN := true, armed := false
      alertSlot := some { flags := flags, mask := s.status.mask, cycle := s.timer.cycleNumber } } }) ∧
    (s.status.armed = false → s.raise f = { s with status := { s.status with
      flags := flags, alertN := flags &&& s.status.mask != 0 } }) ∧
    (flags &&& s.status.mask = 0 → s.raise f = { s with status := { s.status with flags := flags, alertN := false } })

/-! ## Host commands on the part -/

/-- IDENTIFY answers the identification, the capacities, ResetCause and FlushCount; LINE READ answers the fields of
the Line Calibrator, with bin b of the last window at bit 7 − (b mod 8) of byte b div 8, and the exchange state.
Neither changes any state but the Reply Slot. A field of two or four bytes is sent most significant byte first, a signed one in
two's complement, a number in one byte as it is, and a mark as 1 or 0. -/
def Obligations.IdentifyAndLineReadAnswer : Prop :=
  ((∀ w : Word16, ∃ hi lo : Byte, be16 w = [hi, lo] ∧ w.toNat = 256 * hi.toNat + lo.toNat) ∧
    (∀ n : Nat, (n < 256 → (nat8 n).toNat = n) ∧ ∃ w : Word16, nat16 n = be16 w ∧ (n < 65536 → w.toNat = n)) ∧
    (∀ v : Int, (∃ w : Word16, int16 v = be16 w ∧ (-32768 ≤ v → v ≤ 32767 → w.toInt = v)) ∧
      ∃ hi lo : Word16, int32 v = be16 hi ++ be16 lo ∧
        (-2147483648 ≤ v → v ≤ 2147483647 → ((hi ++ lo : BitVec 32)).toInt = v)) ∧
    mark true = 1 ∧ mark false = 0) ∧
  (∀ (s : State) (opcode : Byte) (ref : Word16) (status : Status) (results : List Byte),
    s.replied opcode ref status results =
      { s with replySlot := some { opcode := opcode, ref := ref, status := status, results := results } }) ∧
  ∀ (ref : Word16) (s : State), s.accepts →
    (∃ cause : Byte, (s.status.resetCause = .power → cause = 1) ∧ (s.status.resetCause = .pin → cause = 2) ∧
      exec (.identify ref) s = .next (s.settle (s.replied 0x01 ref .ok
        ([0x2E, 0x71, 0x64, 0x30, 3, 32, 64, 64, 0x10, 0x00, 64, cause] ++ be16 s.status.flushCount)))) ∧
    ∃ (line port : Byte) (bins : List Byte),
      (s.cal.line = .seeking → line = 0) ∧ (s.cal.line = .locked → line = 1) ∧
      (s.port.state = .idle → port = 0) ∧ (∀ frame, s.port.state = .sending frame → port = 1) ∧
      (∀ n, s.port.state = .awaiting n → port = 2) ∧ (∀ rx, s.port.state = .receiving rx → port = 3) ∧
      bins.length = 8 ∧ (bins.getD 0 0).getLsbD 7 = false ∧
      (∀ b : Nat, 1 ≤ b → b ≤ 63 → (bins.getD (b / 8) 0).getLsbD (7 - b % 8) = s.cal.lastBins.getLsbD b) ∧
      exec (.lineRead ref) s = .next (s.settle (s.replied 0x18 ref .ok
        ([line, nat8 s.cal.thresholdInUse, nat8 s.cal.nextThreshold, nat8 (3 * s.timer.timing.fieldDivide / 4)] ++ bins ++
          nat16 s.cal.lastLong ++ [nat8 s.cal.spacingCount, mark s.cal.lastFail, nat8 s.cal.consecutiveFails] ++
          be16 s.cal.fails ++ [port])))

/-- STATUS answers the flags, the armed mark, the mask, the engine state, the cycle number, the occupancy, the queue
marks and three counters as they stand; it then clears the named flags, re-arms the alert, and makes the alert test: a
flag still set and masked puts an ALERT in the Alert Slot, keeps ALERT_N asserted and disarms the alert. ALERT MASK
replaces the mask by the ten defined bits given; ALERT_N then stands exactly when a set flag is masked, and with the
alert armed such a flag makes an ALERT frame and disarms it. The reply carries the mask, the flags and the armed mark
as they stand after the command. The engine states have their codes of Table 11-4. That the bits of the queue marks byte that
no mark names are zero is the model's deduction (log entry 23, DEDUCED). -/
def Obligations.StatusClearsAndAlertMaskReplaces : Prop :=
  (EngineState.halted.code = 0 ∧ EngineState.running.code = 1 ∧ EngineState.stopping.code = 2) ∧
  (∀ (ref clearSet : Word16) (s : State) (kept : BitVec 10) (occupancy : Nat) (results : List Byte), s.accepts →
    kept = s.status.flags &&& ~~~ (clearSet.setWidth 10) →
    occupancy = (s.queue.frames.map ReportFrame.size).sum →
    results = be16 (s.status.flags.setWidth 16) ++ [mark s.status.armed] ++ be16 (s.status.mask.setWidth 16) ++
      [s.timer.engine.code] ++ be16 s.timer.cycleNumber ++ nat16 occupancy ++
      [nat8 (s.queue.throttled.toNat + 2 * (decide (2048 ≤ occupancy)).toNat)] ++ be16 s.sched.overrunCount ++
      be16 s.badFrames ++ be16 s.droppedCommands →
    (kept &&& s.status.mask = 0 → exec (.status ref clearSet) s = .next (s.settle ({ s with
      status := { s.status with flags := kept, armed := true, alertN := false } }.replied 0x02 ref .ok results))) ∧
    (kept &&& s.status.mask ≠ 0 → exec (.status ref clearSet) s = .next (s.settle ({ s with
      status := { s.status with
        flags := kept, armed := false, alertN := true
        alertSlot := some { flags := kept, mask := s.status.mask, cycle := s.timer.cycleNumber } } }.replied
          0x02 ref .ok results)))) ∧
  (∀ (ref given : Word16) (s : State) (mask' : BitVec 10), s.accepts → mask' = given.setWidth 10 →
    (s.status.armed = true → s.status.flags &&& mask' ≠ 0 → exec (.alertMask ref given) s = .next (s.settle ({ s with
      status := { s.status with
        mask := mask', armed := false, alertN := true
        alertSlot := some { flags := s.status.flags, mask := mask', cycle := s.timer.cycleNumber } } }.replied
          0x03 ref .ok (be16 (mask'.setWidth 16) ++ be16 (s.status.flags.setWidth 16) ++ [0])))) ∧
    ((s.status.armed = false ∨ s.status.flags &&& mask' = 0) → exec (.alertMask ref given) s = .next (s.settle ({ s with
      status := { s.status with mask := mask', alertN := s.status.flags &&& mask' != 0 } }.replied
        0x03 ref .ok (be16 (mask'.setWidth 16) ++ be16 (s.status.flags.setWidth 16) ++ [mark s.status.armed])))))

/-- FLUSH: the engine HALTED with the cycle counter, cycle number, position and OverrunCount 0 and no beacon; the
Field Port abandoned; the Line Calibrator at its starting state for the FieldDivide in force; every in-use entry at
its starting run state with its Address; the Unclaimed counters 0; every stream's running state at its starting
values, a SUSPENDED stream ACTIVE; the queue empty with its marks kept; the flags cleared, the alert armed, the Alert
Slot empty, ALERT_N released and FlushCount advanced. Schedules, timing, mask, counters of the trunk and the
transmission in progress stand. That boundaries not yet taken are dropped with it is the model's choice (log entry 8,
DEDUCED). -/
def Obligations.FlushReturnsToStart : Prop :=
  ∀ (ref : Word16) (s : State), s.accepts →
    exec (.flush ref) s = .next (s.settle ({ s with
      timer := { s.timer with engine := .halted, cycleCounter := 0, cycleNumber := 0 }
      sched := { s.sched with beacon := none, position := 0, overrunCount := 0 }
      notices := { streamEngine := [], assembler := 0 }
      port := { state := .idle, exchange := none, replyTimer := none, turnGap := none, fldDe := false }
      cal :=
        { line := .seeking, nextThreshold := 3 * s.timer.timing.fieldDivide / 4
          thresholdInUse := 3 * s.timer.timing.fieldDivide / 4, bins := 0, longCount := 0, spacingCount := 0
          lastBins := 0, lastLong := 0, lastFail := false, consecutiveFails := 0, fails := 0 }
      nodes := s.nodes.map fun (entry : Option NodeEntry) => entry.map fun (e : NodeEntry) =>
        { address := e.address, state := .unknown, expectRx := false, sendTx := false, retryCount := 0, holdCount := 0
          held := false, resync := none, probeCountdown := 0, slot := none, counters := ⟨0, 0, 0, 0, 0, 0, 0⟩ }
      unclaimed := Vector.replicate 32 0
      streams := s.streams.map fun (entry : Option StreamCtx) => entry.map fun (c : StreamCtx) =>
        { state := if c.state = StreamState.suspended then .active else c.state, config := c.config
          run := StreamRun.fresh c.config }
      queue := { s.queue with
        closed := [], openFrame := none, droppedSinceOpen := 0, throttled := false
        lost := { sample := 0, summary := 0, comparator := 0, stale := 0, node := 0, delivery := 0 } }
      status := { s.status with
        flags := 0, alertSlot := none, armed := true, alertN := false, flushCount := bump s.status.flushCount }
      }.replied 0x04 ref .ok (be16 (bump s.status.flushCount))))

/-- The starting values of a stream's running state: zeros, clear marks and INSIDE, the filters with histories of
zeros and phase 0, the unsettled countdown that k and R give, and the waiting mark set in COUNT mode with Align. -/
def Obligations.RestartGivesStartingValues : Prop :=
  ∀ c : StreamConfig, c.ok →
    ∃ (settle : Nat) (waiting : Bool) (filter cmpFilter : FilterState),
      (c.r = 1 ∨ c.k = 1 → settle = 0) ∧ (c.k = 2 → 2 ≤ c.r → settle = 1) ∧ (c.k = 3 → c.r = 2 → settle = 1) ∧
      (c.k = 3 → 3 ≤ c.r → settle = 2) ∧
      (waiting = true ↔ ∃ n, c.integrator = .count n true) ∧
      filter = { history := List.replicate (c.k * (c.r - 1)) 0, phase := 0 } ∧
      (∀ m, c.comparator = some m → cmpFilter = { history := List.replicate (m.kc * (m.rc - 1)) 0, phase := 0 }) ∧
      (c.comparator = none → cmpFilter = { history := [], phase := 0 }) ∧
      StreamRun.fresh c =
        { filter := filter, countdown := settle, seq := 0, cmpFilter := cmpFilter, cmpState := .inside, beyondCount := 0
          beyondDir := none, sum := 0, sumCount := 0, windowCount := 0, overflow := false, waiting := waiting, elapsed := 0
          elapsedOver := false, hasStamp := false, lastInterval := 0, intervalOverflow := false, cyclesSince := 0
          stale := false, blocks := 0, kindMismatch := 0, outputs := 0 }

/-! ## Host commands on the cycle and the schedules -/

/-- TIMING outside HALTED answers STATE, and with a parameter out of its range RANGE, each with the nine values in
force and nothing changed. Otherwise the nine values are taken together, the tick divider restarts at 0, RetryCount,
HoldCount and Attempts that stand beyond the new limits are lowered, raising a limit leaves them as they stand, a
changed FieldDivide returns the Line Calibrator to SEEKING at the new nominal threshold with an empty window, and the
reply is OK with the new values. -/
def Obligations.TimingReplacesParameters : Prop :=
  (∀ t : Timing, t.ok ↔ 1 ≤ t.tickDivide ∧ t.tickDivide ≤ 4096 ∧ 100 ≤ t.cyclePeriod ∧ t.cyclePeriod ≤ 65535 ∧
    10 ≤ t.replyTimeout ∧ t.replyTimeout ≤ 20000 ∧ t.turnGap ≤ 1000 ∧ 1 ≤ t.retryLimit ∧ t.retryLimit ≤ 15 ∧
    1 ≤ t.probeInterval ∧ t.probeInterval ≤ 255 ∧ 1 ≤ t.deliverLimit ∧ t.deliverLimit ≤ 15 ∧ 1 ≤ t.holdLimit ∧
    t.holdLimit ≤ 255 ∧ 8 ≤ t.fieldDivide ∧ t.fieldDivide ≤ 48 ∧ t.fieldDivide % 4 = 0) ∧
  ∀ (ref : Word16) (args : TimingArgs) (s : State) (t : Timing) (inForce : List Byte), s.accepts →
    t = { tickDivide := args.tickDivide.toNat, cyclePeriod := args.cyclePeriod.toNat
          replyTimeout := args.replyTimeout.toNat, turnGap := args.turnGap.toNat, retryLimit := args.retryLimit.toNat
          probeInterval := args.probeInterval.toNat, deliverLimit := args.deliverLimit.toNat
          holdLimit := args.holdLimit.toNat, fieldDivide := args.fieldDivide.toNat } →
    inForce = nat16 s.timer.timing.tickDivide ++ nat16 s.timer.timing.cyclePeriod ++ nat16 s.timer.timing.replyTimeout ++
      nat16 s.timer.timing.turnGap ++ [nat8 s.timer.timing.retryLimit, nat8 s.timer.timing.probeInterval,
        nat8 s.timer.timing.deliverLimit, nat8 s.timer.timing.holdLimit, nat8 s.timer.timing.fieldDivide] →
    (s.timer.engine ≠ .halted → exec (.timing ref args) s = .next (s.settle (s.replied 0x10 ref .state inForce))) ∧
    (s.timer.engine = .halted → ¬ t.ok →
      exec (.timing ref args) s = .next (s.settle (s.replied 0x10 ref .range inForce))) ∧
    (s.timer.engine = .halted → t.ok → exec (.timing ref args) s = .next (s.settle ({ s with
      timer := { s.timer with timing := t, divider := 0 }
      nodes := s.nodes.map fun (entry : Option NodeEntry) => entry.map fun (e : NodeEntry) => { e with
        retryCount := if s.timer.timing.retryLimit < t.retryLimit then e.retryCount
          else if t.retryLimit < e.retryCount then t.retryLimit else e.retryCount
        holdCount := if s.timer.timing.holdLimit < t.holdLimit then e.holdCount
          else if t.holdLimit ≤ e.holdCount then t.holdLimit - 1 else e.holdCount
        slot := e.slot.map fun (p : DownPayload) =>
          if s.timer.timing.deliverLimit < t.deliverLimit then p
          else if t.deliverLimit ≤ p.attempts then { p with attempts := t.deliverLimit - 1 } else p }
      cal := if t.fieldDivide = s.timer.timing.fieldDivide then s.cal else { s.cal with
        line := .seeking, nextThreshold := 3 * t.fieldDivide / 4, thresholdInUse := 3 * t.fieldDivide / 4, bins := 0
        longCount := 0, spacingCount := 0, consecutiveFails := 0 }
      }.replied 0x10 ref .ok (be16 args.tickDivide ++ be16 args.cyclePeriod ++ be16 args.replyTimeout ++
        be16 args.turnGap ++ [args.retryLimit, args.probeInterval, args.deliverLimit, args.holdLimit,
          args.fieldDivide]))))

/-- SCHEDULE LOAD answers FORMAT when the slot count does not match the indices given, RANGE for a count above 64 or
an index above 31, and otherwise makes the list the pending schedule. SCHEDULE READ answers the active schedule with
the slot position and the engine state, the pending one with these two bytes 0, NOENT without one, and RANGE for a
selector above 1. -/
def Obligations.SchedulesAreLoadedAndRead : Prop :=
  (∀ (ref : Word16) (count : Byte) (slots : List Byte) (s : State), s.accepts →
    (slots.length ≠ count.toNat →
      exec (.scheduleLoad ref count slots) s = .next (s.settle (s.replied 0x13 ref .format []))) ∧
    (slots.length = count.toNat → (64 < count.toNat ∨ ∃ b ∈ slots, 31 < b.toNat) →
      exec (.scheduleLoad ref count slots) s = .next (s.settle (s.replied 0x13 ref .range []))) ∧
    ∀ list : List (Fin 32), slots = list.map (fun (i : Fin 32) => nat8 i) → slots.length = count.toNat → count.toNat ≤ 64 →
      exec (.scheduleLoad ref count slots) s = .next (s.settle
        ({ s with sched := { s.sched with pending := some list } }.replied 0x13 ref .ok []))) ∧
  ∀ (ref : Word16) (selector : Byte) (s : State), s.accepts →
    (selector = 0 → exec (.scheduleRead ref selector) s = .next (s.settle (s.replied 0x14 ref .ok
      ([nat8 s.sched.active.length, nat8 s.sched.position, s.timer.engine.code] ++
        s.sched.active.map fun (i : Fin 32) => nat8 i)))) ∧
    (∀ list, selector = 1 → s.sched.pending = some list →
      exec (.scheduleRead ref selector) s = .next (s.settle (s.replied 0x14 ref .ok
        ([nat8 list.length, 0, 0] ++ list.map fun (i : Fin 32) => nat8 i)))) ∧
    (selector = 1 → s.sched.pending = none →
      exec (.scheduleRead ref selector) s = .next (s.settle (s.replied 0x14 ref .noent []))) ∧
    (1 < selector.toNat → exec (.scheduleRead ref selector) s = .next (s.settle (s.replied 0x14 ref .range [])))

/-! ## Host commands on the nodes and the downlink -/

/-- NODE SET, its checks in their order: RANGE for the index or the address, CONFLICT for an address another in-use
entry holds, BUSY for an entry with an exchange in flight or a payload. Otherwise the entry is IN USE with the address
and a fresh run state and its Unclaimed counter is 0, and for an entry that was IN USE each ACTIVE or SUSPENDED stream
bound to it is restarted and ACTIVE, after the RELEASE of a standing trip. NODE DELETE, its checks in their order:
RANGE for the index, NOENT for a FREE entry, CONFLICT for an entry to which a stream is bound, BUSY for one with an
exchange in flight or a payload. Otherwise the entry is FREE, and nothing else changes. -/
def Obligations.NodesAreSetAndDeleted : Prop :=
  (∀ (ref : Word16) (index address : Byte) (s : State), s.accepts →
    ∀ refused : Status → Prop, (∀ status, refused status ↔
      exec (.nodeSet ref index address) s = .next (s.settle (s.replied 0x20 ref status []))) →
    (31 < index.toNat ∨ address = 0 ∨ 126 < address.toNat → refused .range) ∧
    ∀ i : Fin 32, index = nat8 i → 1 ≤ address.toNat → address.toNat ≤ 126 →
      ∀ taken : Prop, (taken ↔ ∃ j : Fin 32, j ≠ i ∧ ∃ e, s.nodes[j] = some e ∧ e.address = address) →
      ∀ busy : Prop, (busy ↔ ∃ e, s.nodes[i] = some e ∧
        (e.slot ≠ none ∨ ∃ x, s.port.exchange = some x ∧ x.node = i)) →
      ∀ fresh : State, fresh = { s with
        unclaimed := s.unclaimed.set i 0
        nodes := s.nodes.set i (some
          { address := address, state := .unknown, expectRx := false, sendTx := false, retryCount := 0, holdCount := 0
            held := false, resync := none, probeCountdown := 0, slot := none, counters := ⟨0, 0, 0, 0, 0, 0, 0⟩ }) } →
      (taken → refused .conflict) ∧ (¬ taken → busy → refused .busy) ∧
      (¬ taken → s.nodes[i] = none →
        exec (.nodeSet ref index address) s = .next (s.settle (fresh.replied 0x20 ref .ok []))) ∧
      (¬ taken → ¬ busy → s.nodes[i] ≠ none → exec (.nodeSet ref index address) s = .next (s.settle
        ((fresh.eachStream fun (k : Fin 64) (c : StreamCtx) =>
          if c.config.node = i ∧ c.state ≠ StreamState.idle then
            ({ state := .active, config := c.config, run := StreamRun.fresh c.config }, c.run.releaseFor k .restart)
          else (c, [])).replied 0x20 ref .ok [])))) ∧
  (∀ (ref : Word16) (index : Byte) (s : State), s.accepts →
    ∀ refused : Status → Prop, (∀ status, refused status ↔
      exec (.nodeDelete ref index) s = .next (s.settle (s.replied 0x21 ref status []))) →
    (31 < index.toNat → refused .range) ∧
    ∀ i : Fin 32, index = nat8 i → (s.nodes[i] = none → refused .noent) ∧
      ∀ e, s.nodes[i] = some e →
        ∀ bound : Prop, (bound ↔ ∃ (k : Fin 64) (c : StreamCtx), s.streams[k] = some c ∧ c.config.node = i) →
        ∀ busy : Prop, (busy ↔ e.slot ≠ none ∨ ∃ x, s.port.exchange = some x ∧ x.node = i) →
        (bound → refused .conflict) ∧ (¬ bound → busy → refused .busy) ∧
        (¬ bound → ¬ busy → exec (.nodeDelete ref index) s = .next (s.settle
          ({ s with nodes := s.nodes.set i none }.replied 0x21 ref .ok []))))

/-- NODE READ, its checks in their order: RANGE for the index or a clear option above 1, NOENT for a FREE entry.
Otherwise it answers the entry's fields, the slot's with zeros when the slot is absent, and with the clear option the
seven counters and the Unclaimed counter become 0. LateTag reads as held while Resync is set; with Resync clear the
two bytes are a free value (log entry 2), and the model's `freeCount` advances. The States have their codes of Table 11-4. That
the bits of the node marks byte that no mark names are zero is the model's deduction (log entry 23, DEDUCED). -/
def Obligations.NodeReadAnswersEntry : Prop :=
  (NodeState.unknown.code = 0 ∧ NodeState.up.code = 1 ∧ NodeState.suspect.code = 2 ∧ NodeState.down.code = 3) ∧
  ∀ (ref : Word16) (index clear : Byte) (s : State), s.accepts →
    ∀ refused : Status → Prop, (∀ status, refused status ↔
      exec (.nodeRead ref index clear) s = .next (s.settle (s.replied 0x22 ref status []))) →
    (31 < index.toNat ∨ 1 < clear.toNat → refused .range) ∧
    ∀ i : Fin 32, index = nat8 i → (clear = 0 ∨ clear = 1) → (s.nodes[i] = none → refused .noent) ∧
      ∀ e, s.nodes[i] = some e →
        ∃ (lateTag : Word16) (slot : List Byte) (answered : Bool) (drawn : Nat),
          (∀ tag, e.resync = some tag → lateTag = tag ∧ drawn = 0) ∧ (e.resync = none → drawn = 1) ∧
          (e.slot = none → slot = [0, 0, 0, 0] ∧ answered = false) ∧
          (∀ p, e.slot = some p →
            slot = be16 p.tag ++ [nat8 p.payload.length, nat8 p.attempts] ∧ answered = p.lastAnswered) ∧
          exec (.nodeRead ref index clear) s = .next (s.settle ({ s with
            nodes := if clear = 1 then s.nodes.set i (some { e with counters := ⟨0, 0, 0, 0, 0, 0, 0⟩ }) else s.nodes
            unclaimed := if clear = 1 then s.unclaimed.set i 0 else s.unclaimed
            freeCount := s.freeCount + drawn }.replied 0x22 ref .ok
              ([e.address, e.state.code,
                nat8 (e.expectRx.toNat + 2 * e.sendTx.toNat + 4 * e.held.toNat + 8 * e.resync.isSome.toNat +
                  16 * e.slot.isSome.toNat + 32 * answered.toNat),
                nat8 e.retryCount, nat8 e.holdCount, nat8 e.probeCountdown] ++ slot ++ be16 lateTag ++
                be16 e.counters.polls ++ be16 e.counters.accepted ++ be16 e.counters.duplicates ++
                be16 e.counters.timeouts ++ be16 e.counters.spoiled ++ be16 e.counters.holds ++
                be16 e.counters.protocolErrors ++ be16 s.unclaimed[i])))

/-- FORWARD, its checks in their order: RANGE for the index, NOENT for a FREE entry, RANGE for a payload that is empty
or longer than 64 bytes, STATE for a DOWN node, BUSY for a present slot or a set Resync. Otherwise the payload is in
the slot with its Tag, Attempts 0 and LastAttemptAnswered no. CANCEL, its checks in their order: RANGE for the index,
NOENT for a FREE entry or an absent slot. Otherwise the payload leaves its slot, with Resync set and LateTag its Tag
when Attempts is above 0; the DELIVERY entry CANCELLED is added and the DELIVERY flag raised; and the reply carries
the Tag and Attempts. -/
def Obligations.ForwardFillsAndCancelEmptiesTheSlot : Prop :=
  (∀ (ref tag : Word16) (index : Byte) (payload : List Byte) (s : State), s.accepts →
    ∀ refused : Status → Prop, (∀ status, refused status ↔
      exec (.forward ref index tag payload) s = .next (s.settle (s.replied 0x50 ref status []))) →
    (31 < index.toNat → refused .range) ∧
    ∀ i : Fin 32, index = nat8 i → (s.nodes[i] = none → refused .noent) ∧
      ∀ e, s.nodes[i] = some e →
        (payload.length = 0 ∨ 64 < payload.length → refused .range) ∧
        (1 ≤ payload.length → payload.length ≤ 64 →
          (e.state = .down → refused .state) ∧
          (e.state ≠ .down → e.slot ≠ none ∨ e.resync ≠ none → refused .busy) ∧
          (e.state ≠ .down → e.slot = none → e.resync = none →
            exec (.forward ref index tag payload) s = .next (s.settle ({ s with
              nodes := s.nodes.set i (some { e with
                slot := some { tag := tag, payload := payload, attempts := 0, lastAnswered := false } })
              }.replied 0x50 ref .ok []))))) ∧
  (∀ (ref : Word16) (index : Byte) (s : State), s.accepts →
    ∀ refused : Status → Prop, (∀ status, refused status ↔
      exec (.cancel ref index) s = .next (s.settle (s.replied 0x51 ref status []))) →
    (31 < index.toNat → refused .range) ∧
    ∀ i : Fin 32, index = nat8 i → (s.nodes[i] = none → refused .noent) ∧
      ∀ e, s.nodes[i] = some e → (e.slot = none → refused .noent) ∧
        ∀ p, e.slot = some p → exec (.cancel ref index) s = .next (s.settle
          (({ s with nodes := s.nodes.set i (some { e with
              slot := none, resync := if 0 < p.attempts then some p.tag else e.resync }) }.emit
            [.add (.delivery i p.tag .cancelled p.attempts), .raise .delivery]).replied 0x51 ref .ok
              (be16 p.tag ++ [nat8 p.attempts]))))

/-! ## Host commands on the streams and the queue -/

/-- STREAM SET, its checks in their order: RANGE for the stream, node index or tag, STATE for an ACTIVE or SUSPENDED
stream, NOENT for a FREE node entry, CONFLICT for a pair another stream holds, RANGE for a configuration that
`parseStream` turns away (its ranges: ConfigurationRangesAreChecked). Otherwise the stream is IDLE with the
configuration and its running state at the starting values. -/
def Obligations.StreamSetConfigures : Prop :=
  ∀ (ref : Word16) (number : Byte) (args : StreamArgs) (s : State), s.accepts →
    ∀ refused : Status → Prop, (∀ status, refused status ↔
      exec (.streamSet ref number args) s = .next (s.settle (s.replied 0x30 ref status []))) →
    (63 < number.toNat ∨ 31 < args.node.toNat ∨ 7 < args.tag.toNat → refused .range) ∧
    ∀ (i : Fin 64) (node : Fin 32) (tag : Fin 8), number = nat8 i → args.node = nat8 node → args.tag = nat8 tag →
      ∀ running : Prop, (running ↔ ∃ c, s.streams[i] = some c ∧ c.state ≠ .idle) →
      ∀ held : Prop, (held ↔ ∃ (j : Fin 64) (c : StreamCtx), j ≠ i ∧ s.streams[j] = some c ∧ c.config.node = node ∧
        c.config.tag = tag) →
      (running → refused .state) ∧ (¬ running → s.nodes[node] = none → refused .noent) ∧
      (¬ running → s.nodes[node] ≠ none →
        (held → refused .conflict) ∧ (¬ held → parseStream args node tag = none → refused .range) ∧
        ∀ config, ¬ held → parseStream args node tag = some config →
          exec (.streamSet ref number args) s = .next (s.settle ({ s with
            streams := s.streams.set i (some { state := .idle, config := config, run := StreamRun.fresh config })
            }.replied 0x30 ref .ok [])))

/-- The ranges of Table 4-1 in STREAM SET: Kind, k, R, R^k for WORDS, the sample output with Shift checked for SHORT
only, the comparator's six values checked when it is on only, the integrator with N and Align checked for COUNT only,
and IntervalInSummary. Within them the configuration is as given. -/
def Obligations.ConfigurationRangesAreChecked : Prop :=
  ∀ (a : StreamArgs) (node : Fin 32) (tag : Fin 8),
    ∀ filterOk : Prop, (filterOk ↔ a.kind.toNat ≤ 1 ∧ 1 ≤ a.k.toNat ∧ a.k.toNat ≤ 3 ∧ 1 ≤ a.r.toNat ∧ a.r.toNat ≤ 256 ∧
      (a.kind = 1 → a.r.toNat ^ a.k.toNat ≤ 65536)) →
    ∀ outputOk : Prop, (outputOk ↔ a.output.toNat ≤ 2 ∧ (a.output = 1 → a.shift.toNat ≤ 24)) →
    ∀ comparatorOk : Prop, (comparatorOk ↔ a.comparator.toNat ≤ 1 ∧ (a.comparator = 1 →
      1 ≤ a.kc.toNat ∧ a.kc.toNat ≤ 3 ∧ 1 ≤ a.rc.toNat ∧ a.rc.toNat ≤ 32 ∧ a.low.toInt < a.high.toInt ∧
      1 ≤ a.tripCount.toNat ∧ a.tripCount.toNat ≤ 15)) →
    ∀ integratorOk : Prop, (integratorOk ↔ a.integrator.toNat ≤ 2 ∧ (a.integrator = 1 →
      1 ≤ a.n.toNat ∧ a.n.toNat ≤ 128 ∧ a.align.toNat ≤ 1)) →
    ∀ ok : Prop, (ok ↔ filterOk ∧ outputOk ∧ comparatorOk ∧ integratorOk ∧ a.intervalInSummary.toNat ≤ 1) →
    (¬ ok → parseStream a node tag = none) ∧
    (ok → ∃ c, parseStream a node tag = some c ∧ c.ok ∧ c.node = node ∧ c.tag = tag ∧
      (c.kind = .words ↔ a.kind = 1) ∧ c.k = a.k.toNat ∧ c.r = a.r.toNat ∧
      (a.output = 0 → c.output = .off) ∧ (a.output = 1 → c.output = .short a.shift.toNat) ∧
      (a.output = 2 → c.output = .long) ∧ (a.comparator = 0 → c.comparator = none) ∧
      (a.comparator = 1 → c.comparator = some
        { kc := a.kc.toNat, rc := a.rc.toNat, high := a.high.toInt, low := a.low.toInt
          hysteresis := a.hysteresis.toNat, tripCount := a.tripCount.toNat }) ∧
      (a.integrator = 0 → c.integrator = .off) ∧
      (a.integrator = 1 → c.integrator = .count a.n.toNat (a.align == 1)) ∧
      (a.integrator = 2 → c.integrator = .cycle) ∧ c.staleLimit = a.staleLimit.toNat ∧
      c.intervalInSummary = (a.intervalInSummary == 1))

/-- STREAM ENABLE on an IDLE stream restarts it, ACTIVE, or SUSPENDED when its node is DOWN, and answers the state.
STREAM DISABLE puts an ACTIVE or SUSPENDED stream aside: IDLE, a standing trip released with cause DISABLE and value
0, its window given up; it answers OK for an IDLE one too. STREAM DELETE makes an IDLE stream UNUSED. Otherwise each
answers RANGE for a stream above 63, and STATE. -/
def Obligations.StreamsAreEnabledDisabledDeleted : Prop :=
  ∀ (ref : Word16) (number : Byte) (s : State), s.accepts →
    (63 < number.toNat →
      exec (.streamEnable ref number) s = .next (s.settle (s.replied 0x31 ref .range [])) ∧
      exec (.streamDisable ref number) s = .next (s.settle (s.replied 0x32 ref .range [])) ∧
      exec (.streamDelete ref number) s = .next (s.settle (s.replied 0x33 ref .range []))) ∧
    ∀ i : Fin 64, number = nat8 i →
      (s.streams[i] = none →
        exec (.streamEnable ref number) s = .next (s.settle (s.replied 0x31 ref .state [])) ∧
        exec (.streamDisable ref number) s = .next (s.settle (s.replied 0x32 ref .state [])) ∧
        exec (.streamDelete ref number) s = .next (s.settle (s.replied 0x33 ref .state []))) ∧
      ∀ c, s.streams[i] = some c →
        (c.state = .idle →
          ∃ (state : StreamState) (code : Byte),
            ((∃ e, s.nodes[c.config.node] = some e ∧ e.state = .down) → state = .suspended ∧ code = 3) ∧
            ((¬ ∃ e, s.nodes[c.config.node] = some e ∧ e.state = .down) → state = .active ∧ code = 2) ∧
            exec (.streamEnable ref number) s = .next (s.settle ({ s with
              streams := s.streams.set i
                (some { state := state, config := c.config, run := StreamRun.fresh c.config })
              }.replied 0x31 ref .ok [code])) ∧
            exec (.streamDisable ref number) s = .next (s.settle (s.replied 0x32 ref .ok [])) ∧
            exec (.streamDelete ref number) s = .next (s.settle
              ({ s with streams := s.streams.set i none }.replied 0x33 ref .ok []))) ∧
        (c.state ≠ .idle →
          exec (.streamEnable ref number) s = .next (s.settle (s.replied 0x31 ref .state [])) ∧
          exec (.streamDelete ref number) s = .next (s.settle (s.replied 0x33 ref .state [])) ∧
          ∀ run : StreamRun, run = { c.run with sum := 0, sumCount := 0, windowCount := 0, overflow := false } →
          ∀ put : StreamRun → State, (∀ r, put r = { s with
            streams := s.streams.set i (some { c with state := .idle, run := r }) }) →
          (c.run.cmpState = .inside →
            exec (.streamDisable ref number) s = .next (s.settle ((put run).replied 0x32 ref .ok []))) ∧
          ∀ (state : ComparatorState) (dir : Direction),
            (state = .above ∧ dir = .high) ∨ (state = .below ∧ dir = .low) → c.run.cmpState = state →
            exec (.streamDisable ref number) s = .next (s.settle
              (((put { run with cmpState := .inside, beyondCount := 0, beyondDir := none }).emit
                [.add (.release i dir .disable 0)]).replied 0x32 ref .ok [])))

/-- STREAM READ answers a stream's state, its configuration in the layout STREAM SET takes it in, with zeros for the
fields of a part switched OFF or of a mode not selected, and its running state, and clears IntervalOverflow once it has
been read; it answers RANGE for a stream above 63 and NOENT for an UNUSED one. The states, the kinds, the comparator's
states and its directions have their codes of Table 11-4. That the bits of the two bytes of marks that no mark names are
zero is the model's deduction (log entry 23, DEDUCED). -/
def Obligations.StreamReadAnswersContext : Prop :=
  (StreamState.idle.code = 1 ∧ StreamState.active.code = 2 ∧ StreamState.suspended.code = 3 ∧ Kind.bits.code = 0 ∧
    Kind.words.code = 1 ∧ ComparatorState.inside.code = 0 ∧ ComparatorState.above.code = 1 ∧
    ComparatorState.below.code = 2 ∧ beyondCode none = 0 ∧ beyondCode (some .high) = 1 ∧ beyondCode (some .low) = 2) ∧
  ∀ (ref : Word16) (number : Byte) (s : State), s.accepts →
    (63 < number.toNat → exec (.streamRead ref number) s = .next (s.settle (s.replied 0x34 ref .range []))) ∧
    ∀ i : Fin 64, number = nat8 i →
      (s.streams[i] = none → exec (.streamRead ref number) s = .next (s.settle (s.replied 0x34 ref .noent []))) ∧
      ∀ c, s.streams[i] = some c → ∃ config run output comparator integrator : List Byte,
        config.length = 27 ∧ run.length = 28 ∧
        (c.config.output = .off → output = [0, 0]) ∧ (∀ n, c.config.output = .short n → output = [1, nat8 n]) ∧
        (c.config.output = .long → output = [2, 0]) ∧
        (c.config.comparator = none → comparator = List.replicate 14 0) ∧
        (∀ m, c.config.comparator = some m → comparator =
          [1, nat8 m.kc, nat8 m.rc] ++ int32 m.high ++ int32 m.low ++ nat16 m.hysteresis ++ [nat8 m.tripCount]) ∧
        (c.config.integrator = .off → integrator = [0, 0, 0]) ∧
        (∀ n align, c.config.integrator = .count n align → integrator = [1, nat8 n, mark align]) ∧
        (c.config.integrator = .cycle → integrator = [2, 0, 0]) ∧
        config = [nat8 c.config.node, nat8 c.config.tag, c.config.kind.code, nat8 c.config.k] ++ nat16 c.config.r ++
          output ++ comparator ++ integrator ++ [nat8 c.config.staleLimit, mark c.config.intervalInSummary] ∧
        run = [nat8 c.run.filter.phase, nat8 c.run.countdown, c.run.seq] ++ be16 c.run.outputs ++
          [c.run.cmpState.code, nat8 c.run.beyondCount, beyondCode c.run.beyondDir, nat8 c.run.cmpFilter.phase] ++
          int32 c.run.sum ++ be16 c.run.sumCount ++ be16 c.run.windowCount ++
          [nat8 (c.run.overflow.toNat + 2 * c.run.waiting.toNat)] ++ be16 c.run.elapsed ++
          [nat8 (c.run.elapsedOver.toNat + 2 * c.run.hasStamp.toNat + 4 * c.run.intervalOverflow.toNat +
            8 * c.run.stale.toNat)] ++ be16 c.run.lastInterval ++ [nat8 c.run.cyclesSince] ++ be16 c.run.blocks ++
          be16 c.run.kindMismatch ∧
        (∀ (a : StreamArgs) (node : Fin 32) (tag : Fin 8), parseStream a node tag = some c.config →
          ∃ b, streamArgsOfBytes config = some b ∧ b.node = nat8 node ∧ b.tag = nat8 tag ∧
            parseStream b node tag = some c.config) ∧
        exec (.streamRead ref number) s = .next (s.settle ({ s with
          streams := s.streams.set i (some { c with run := { c.run with intervalOverflow := false } }) }.replied 0x34 ref .ok
            (c.state.code :: config ++ run)))

/-- QUEUE MARKS answers RANGE unless LowMark is below HighMark and HighMark at most 4096; otherwise both marks are set
and the Throttled mark is evaluated at once. In either case the reply carries the marks in force, the occupancy and
the Throttled mark. QUEUE READ answers the occupancy, the frames held, the open frame's presence and entry count, the
queue marks, both marks, DroppedSinceOpen and the six loss counters; with the clear option the loss counters then
become 0. With no frame open the byte of the entry count is a free value (log entry 22), and the model's `freeCount`
advances. A clear option above 1 is answered RANGE. That the bits that no mark names are zero is the model's deduction (log
entry 23, DEDUCED). -/
def Obligations.QueueMarksAreSetAndQueueIsRead : Prop :=
  (∀ (ref high low : Word16) (s : State) (occupancy : Nat), s.accepts →
    occupancy = (s.queue.frames.map ReportFrame.size).sum →
    (high.toNat ≤ low.toNat ∨ 4096 < high.toNat →
      exec (.queueMarks ref high low) s = .next (s.settle (s.replied 0x40 ref .range
        (nat16 s.queue.highMark ++ nat16 s.queue.lowMark ++ nat16 occupancy ++ [mark s.queue.throttled])))) ∧
    (low.toNat < high.toNat → high.toNat ≤ 4096 →
      ∃ throttled : Bool, (high.toNat ≤ occupancy → throttled = true) ∧ (occupancy ≤ low.toNat → throttled = false) ∧
        (low.toNat < occupancy → occupancy < high.toNat → throttled = s.queue.throttled) ∧
        exec (.queueMarks ref high low) s = .next (s.settle ({ s with
          queue := { s.queue with highMark := high.toNat, lowMark := low.toNat, throttled := throttled } }.replied
            0x40 ref .ok (be16 high ++ be16 low ++ nat16 occupancy ++ [mark throttled]))))) ∧
  (∀ (ref : Word16) (clear : Byte) (s : State) (occupancy : Nat), s.accepts →
    occupancy = (s.queue.frames.map ReportFrame.size).sum →
    (1 < clear.toNat → exec (.queueRead ref clear) s = .next (s.settle (s.replied 0x41 ref .range []))) ∧
    (clear = 0 ∨ clear = 1 →
      ∃ (entries : Byte) (drawn : Nat), (s.queue.openFrame = none → drawn = 1) ∧
        (∀ f, s.queue.openFrame = some f → entries = nat8 f.entries.length ∧ drawn = 0) ∧
        exec (.queueRead ref clear) s = .next (s.settle ({ s with
          queue := { s.queue with
            lost := if clear = 1 then { sample := 0, summary := 0, comparator := 0, stale := 0, node := 0, delivery := 0 }
              else s.queue.lost }
          freeCount := s.freeCount + drawn }.replied 0x41 ref .ok
          (nat16 occupancy ++ [nat8 s.queue.frames.length, mark s.queue.openFrame.isSome, entries,
              nat8 (s.queue.throttled.toNat + 2 * (decide (2048 ≤ occupancy)).toNat)] ++
            nat16 s.queue.highMark ++ nat16 s.queue.lowMark ++ be16 s.queue.droppedSinceOpen ++
            be16 s.queue.lost.sample ++ be16 s.queue.lost.summary ++ be16 s.queue.lost.comparator ++
            be16 s.queue.lost.stale ++ be16 s.queue.lost.node ++ be16 s.queue.lost.delivery)))))

/-! ## The trunk link -/

/-- A good frame that is complete while the Reply Slot holds a frame is dropped: DroppedCommands is incremented, TRUNK
is raised, and nothing else changes. It holds for each of the 22 host commands and for every good frame, one that
would be answered FORMAT included. A good frame whose TYPE is not COMMAND, or whose content is too short for an opcode
and a Reference, is answered FORMAT with opcode 0 and Reference 0; one with an unknown opcode, or with a known one and
an argument length that does not match its layout, is answered FORMAT with its own. No state changes but the Reply
Slot. -/
def Obligations.GoodFramesAreDroppedOrAnsweredFormat : Prop :=
  (∀ (c : Instr) (s : State), s.live → s.replySlot ≠ none → commandBody c ≠ none →
    exec c s = .next (s.settle ({ s with droppedCommands := bump s.droppedCommands }.raise .trunk))) ∧
  (∀ (s : State) (type : Byte) (body : List Byte), s.live → s.replySlot ≠ none → s.receiver = .hunt →
    body.length ≤ 512 → exec (.trunkFrameReceived (trunkFrame type body)) s =
      .next (s.settle ({ s with droppedCommands := bump s.droppedCommands }.raise .trunk))) ∧
  (∀ (s : State) (type : Byte) (body : List Byte), s.accepts → s.receiver = .hunt → body.length ≤ 512 →
    (type ≠ 0x01 ∨ body.length < 3 → exec (.trunkFrameReceived (trunkFrame type body)) s =
      .next (s.settle (s.replied 0 0 .format []))) ∧
    ∀ (opcode r1 r0 : Byte) (args : List Byte), type = 0x01 → body = opcode :: r1 :: r0 :: args →
      (opcode.toNat ∉ [0x01, 0x02, 0x03, 0x04, 0x10, 0x11, 0x12, 0x13, 0x14, 0x18, 0x20, 0x21, 0x22, 0x30, 0x31, 0x32,
          0x33, 0x34, 0x40, 0x41, 0x50, 0x51] ∨
        (∃ size : Nat, args.length ≠ size ∧ (opcode.toNat, size) ∈ [(0x01, 0), (0x02, 2), (0x03, 2), (0x04, 0), (0x10, 13),
          (0x11, 0), (0x12, 0), (0x14, 1), (0x18, 0), (0x20, 2), (0x21, 1), (0x22, 2), (0x30, 28), (0x31, 1), (0x32, 1),
          (0x33, 1), (0x34, 1), (0x40, 4), (0x41, 1), (0x51, 1)]) ∨
        (opcode = 0x13 ∧ ∀ count ∈ args.head?, args.length ≠ 1 + count.toNat) ∨ (opcode = 0x50 ∧ args.length < 3)) →
      exec (.trunkFrameReceived (trunkFrame type body)) s =
        .next (s.settle (s.replied opcode (word16 r1 r0) .format [])))

/-- The Trunk Receiver takes bytes one at a time. In HUNT a SYNC begins a LENGTH and any other byte is discarded; a
LENGTH of 1..513 leads to CONTENT, which gathers that many bytes, then two CRC bytes are gathered, and what is stored
stays short of what is awaited after every step. Bad frames: a frame whose CRC does not agree, a frame begun when the
gap passes after the bytes given, and a frame begun when a byte without valid stop bit arrives after them, is
discarded: BadFrames is incremented, TRUNK raised, and the receiver is in HUNT. In HUNT neither event has a further
effect. A LENGTH of 0 or above 513 shows that its SYNC was no frame start: no bad frame is counted, and the receiver
returns to HUNT and examines the two LENGTH bytes again, the first before the second. That a first byte equal to SYNC
makes the second the first LENGTH byte of a new frame is the model's reading (log entry 14, DEDUCED); that the bytes
arrive in the event's step is its choice (log entry 6). Each frame that is complete or bad is an event of its own for the
frames that begin to wait together (log entry 3). -/
def Obligations.BadFramesAreDiscardedFalseStartsAreNot : Prop :=
  (∀ (s m bad : State) (bytes : List Byte), s.live → m = bytes.foldl State.receiveByte s →
    bad = m.settle ({ m with receiver := .hunt, badFrames := bump m.badFrames }.raise .trunk) →
    exec (.trunkFrameReceived bytes) s = .next m ∧
    (m.receiver ≠ .hunt →
      exec (.trunkGapTimeout bytes) s = .next bad ∧ exec (.trunkByteError bytes) s = .next bad) ∧
    (m.receiver = .hunt →
      exec (.trunkGapTimeout bytes) s = .next m ∧ exec (.trunkByteError bytes) s = .next m)) ∧
  (∀ (s : State) (b : Byte) (put : ReceiverState → State), (∀ r, put r = { s with receiver := r }) →
    (s.receiver = .hunt → (b = 0xA5 → s.receiveByte b = put (.length [])) ∧ (b ≠ 0xA5 → s.receiveByte b = s)) ∧
    (s.receiver = .length [] → s.receiveByte b = put (.length [b])) ∧
    (∀ hi n, s.receiver = .length [hi] → n = word16 hi b → 1 ≤ n.toNat → n.toNat ≤ 513 →
      s.receiveByte b = put (.content n [])) ∧
    (∀ n got, s.receiver = .content n got →
      (got.length + 1 < n.toNat → s.receiveByte b = put (.content n (got ++ [b]))) ∧
      (got.length + 1 = n.toNat → s.receiveByte b = put (.check n (got ++ [b]) []))) ∧
    (∀ n content, s.receiver = .check n content [] → s.receiveByte b = put (.check n content [b])) ∧
    (∀ n content c1, s.receiver = .check n content [c1] →
      (word16 c1 b = crc16 (be16 n ++ content) → s.receiveByte b = (put .hunt).handOn content) ∧
      (word16 c1 b ≠ crc16 (be16 n ++ content) → s.receiveByte b =
        s.settle ({ s with receiver := .hunt, badFrames := bump s.badFrames }.raise .trunk)))) ∧
  (∀ s t : State, s.receiver.ok = true → step s = .next t → t.receiver.ok = true) ∧
  (∀ (s : State) (hi lo : Byte), s.live → s.receiver = .hunt ∨ s.receiver = .length [] →
    (word16 hi lo = 0 ∨ 513 < (word16 hi lo).toNat) →
    (hi ≠ 0xA5 → lo ≠ 0xA5 →
      exec (.lengthOutOfRange (word16 hi lo)) s = .next { s with receiver := .hunt }) ∧
    (hi ≠ 0xA5 → lo = 0xA5 →
      exec (.lengthOutOfRange (word16 hi lo)) s = .next { s with receiver := .length [] }) ∧
    (hi = 0xA5 → exec (.lengthOutOfRange (word16 hi lo)) s = .next { s with receiver := .length [lo] }))

/-- Every host command that one frame can carry is what its COMMAND frame does: from HUNT, the bytes SYNC, LENGTH, TYPE
COMMAND, opcode, Reference, arguments and CRC have the effect of the command itself, with every operand at every value. The
arguments of each command stand in the frame in the layout of Table 11-5. -/
def Obligations.CommandFramesExecuteTheirCommand : Prop :=
  (∀ c : Instr, commandFrame c = (commandBody c).map (trunkFrame 0x01)) ∧
  (∀ (ref a b : Word16) (x y : Byte) (list : List Byte) (t : TimingArgs) (g : StreamArgs),
    ∀ carries : Instr → Byte → List Byte → Prop,
      (∀ c opcode args, carries c opcode args ↔ commandBody c = some (opcode :: be16 ref ++ args)) →
    carries (.identify ref) 0x01 [] ∧ carries (.status ref a) 0x02 (be16 a) ∧ carries (.alertMask ref a) 0x03 (be16 a) ∧
    carries (.flush ref) 0x04 [] ∧ carries (.run ref) 0x11 [] ∧ carries (.halt ref) 0x12 [] ∧
    carries (.timing ref t) 0x10 (be16 t.tickDivide ++ be16 t.cyclePeriod ++ be16 t.replyTimeout ++ be16 t.turnGap ++
      [t.retryLimit, t.probeInterval, t.deliverLimit, t.holdLimit, t.fieldDivide]) ∧
    carries (.scheduleLoad ref x list) 0x13 (x :: list) ∧ carries (.scheduleRead ref x) 0x14 [x] ∧
    carries (.lineRead ref) 0x18 [] ∧ carries (.nodeSet ref x y) 0x20 [x, y] ∧ carries (.nodeDelete ref x) 0x21 [x] ∧
    carries (.nodeRead ref x y) 0x22 [x, y] ∧
    carries (.streamSet ref x g) 0x30 ([x, g.node, g.tag, g.kind, g.k] ++ be16 g.r ++
      [g.output, g.shift, g.comparator, g.kc, g.rc] ++ int32 g.high.toInt ++ int32 g.low.toInt ++ be16 g.hysteresis ++
      [g.tripCount, g.integrator, g.n, g.align, g.staleLimit, g.intervalInSummary]) ∧
    carries (.streamEnable ref x) 0x31 [x] ∧ carries (.streamDisable ref x) 0x32 [x] ∧
    carries (.streamDelete ref x) 0x33 [x] ∧ carries (.streamRead ref x) 0x34 [x] ∧
    carries (.queueMarks ref a b) 0x40 (be16 a ++ be16 b) ∧ carries (.queueRead ref x) 0x41 [x] ∧
    carries (.forward ref x a list) 0x50 (x :: be16 a ++ list) ∧ carries (.cancel ref x) 0x51 [x]) ∧
  ∀ (c : Instr) (frame : List Byte) (s : State), c.wf = true → commandFrame c = some frame → s.receiver = .hunt →
    exec (.trunkFrameReceived frame) s = exec c s

/-! ## The field line -/

/-- Every field frame the line code spells is read back: with FieldDivide a multiple of 4 in 8..48 and the nominal
threshold, the transitions of a frame's bytes, from the start of the first bit of ADDR on, decode to exactly these
bytes, every spacing measured. While SENDING the part drives two spacings of one and a half bit periods and then these
transitions: one at every bit's middle, up for a 1, and one at the boundary between equal bits. A spacing heard is half below
the threshold, full below it plus half a bit period, and a violation from there on; from three bit periods on it is silence,
which spoils the reception and is not measured. A half spacing leads from a bit's middle to its boundary, or from a boundary to
a middle, and a full one from middle to middle; a full one at a boundary and a violation anywhere spoil the reception. An
arrival at a middle decodes a bit, most significant first in its byte. Once four bytes are complete a LEN above 600 spoils the
reception, and otherwise the second CRC byte completes the frame. -/
def Obligations.FieldFrameIsReadBack : Prop :=
  (∀ (fieldDivide : Nat) (addr ctrl c1 c0 : Byte) (payload bytes : List Byte),
    8 ≤ fieldDivide → fieldDivide ≤ 48 → fieldDivide % 4 = 0 → payload.length ≤ 600 →
    bytes = addr :: ctrl :: nat16 payload.length ++ payload ++ [c1, c0] →
    hearReply (3 * fieldDivide / 4) fieldDivide { atMiddle := false, bits := [], bytes := [] }
        (frameSpacings fieldDivide bytes) =
      { measured := (frameSpacings fieldDivide bytes).map Spacing.len, result := .complete bytes }) ∧
  ((∀ s : State, (∀ frame, s.port.state = .sending frame → ∀ period, period = s.timer.timing.fieldDivide →
      s.fieldDrive = { len := period + period / 2, rise := false } :: { len := period + period / 2, rise := true } ::
        frameSpacings period frame.bytes) ∧
      ((∀ frame, s.port.state ≠ .sending frame) → s.fieldDrive = [])) ∧
    (∀ (period : Nat) (bytes : List Byte) (b : Bool) (bits : List Bool),
      bytes.flatMap (fun x => (List.range 8).map fun j => x.getLsbD (7 - j)) = b :: bits →
      frameSpacings period bytes = { len := period / 2, rise := b } :: bitSpacings period b bits) ∧
    ∀ (period : Nat) (b : Bool) (bits : List Bool), bitSpacings period b [] = [] ∧
      bitSpacings period b (b :: bits) =
        { len := period / 2, rise := !b } :: { len := period / 2, rise := b } :: bitSpacings period b bits ∧
      bitSpacings period (!b) (b :: bits) = { len := period, rise := b } :: bitSpacings period b bits) ∧
  (∀ (threshold period : Nat) (rx : Reception) (sp : Spacing) (rest : List Spacing),
    hearReply threshold period rx [] = { measured := [], result := .more rx } ∧
    (3 * period ≤ sp.len → hearReply threshold period rx (sp :: rest) = { measured := [], result := .spoiled }) ∧
    (sp.len < 3 * period → ∀ makes : Hearing → Prop,
      (∀ rx', makes (.more rx') ↔ hearReply threshold period rx (sp :: rest) =
        { measured := sp.len :: (hearReply threshold period rx' rest).measured
          result := (hearReply threshold period rx' rest).result }) →
      (∀ bytes, makes (.complete bytes) ↔ hearReply threshold period rx (sp :: rest) =
        { measured := [sp.len], result := .complete bytes }) →
      (makes .spoiled ↔ hearReply threshold period rx (sp :: rest) = { measured := [sp.len], result := .spoiled }) →
      (sp.len < threshold → rx.atMiddle = false → makes (rx.bit sp.rise)) ∧
      (sp.len < threshold → rx.atMiddle = true → makes (.more { rx with atMiddle := false })) ∧
      (threshold ≤ sp.len → sp.len < threshold + period / 2 → rx.atMiddle = true → makes (rx.bit sp.rise)) ∧
      (threshold ≤ sp.len → sp.len < threshold + period / 2 → rx.atMiddle = false → makes .spoiled) ∧
      (threshold ≤ sp.len → threshold + period / 2 ≤ sp.len → makes .spoiled))) ∧
  ∀ (rx : Reception) (b : Bool),
    (rx.bits.length < 7 → rx.bit b = .more { atMiddle := true, bits := rx.bits ++ [b], bytes := rx.bytes }) ∧
    (rx.bits.length = 7 →
      ∀ bytes, bytes = rx.bytes ++ [nat8 ((rx.bits ++ [b]).foldl (fun n bit => 2 * n + bit.toNat) 0)] →
      ∀ next : Hearing, next = .more { atMiddle := true, bits := [], bytes := bytes } →
      (bytes.length < 4 → rx.bit b = next) ∧
      ∀ addr ctrl l1 l0 more, bytes = addr :: ctrl :: l1 :: l0 :: more →
        (600 < (word16 l1 l0).toNat → rx.bit b = .spoiled) ∧
        ((word16 l1 l0).toNat ≤ 600 → bytes.length = (word16 l1 l0).toNat + 6 → rx.bit b = .complete bytes) ∧
        ((word16 l1 l0).toNat ≤ 600 → bytes.length ≠ (word16 l1 l0).toNat + 6 → rx.bit b = next))

/-! ## What every step keeps -/

/-- The Cycle Timer, the schedules and the Line Calibrator stay in their ranges: each step keeps the first, and with
it the second. Outside RUNNING no boundary is still to be reacted to (log entry 8). -/
def Obligations.EveryStepKeepsClockAndCalibrator : Prop :=
  ∀ s t : State, s.clockOk → step s = .next t → t.clockOk ∧ (s.calibratorOk → t.calibratorOk)

/-- The uplink queue stays within its bounds: every step keeps at most 64 frames of 1 to 32 entries and 4096 body
bytes, an open frame with room and without an urgent entry, and the Throttled mark as the occupancy and the marks give
it. -/
def Obligations.EveryStepKeepsQueue : Prop :=
  ∀ s t : State, s.queueOk → step s = .next t → t.queueOk

/-- ALERT_N follows the masked flags, and an armed alert has no set flag masked, after every step. -/
def Obligations.EveryStepKeepsAlert : Prop :=
  ∀ s t : State, s.alertOk → step s = .next t → t.alertOk

/-- The Field Port's outputs and timers agree with its state, an exchange in flight has its entry, and the engine's state
agrees with the port's, after every step. -/
def Obligations.EveryStepKeepsPort : Prop :=
  ∀ s t : State, s.portOk → step s = .next t → t.portOk

/-- The node table stays in order after every step: addresses distinct and in 1..126, counts within their limits, no
slot in a DOWN entry or beside a set Resync, and Attempts at DeliverLimit only while the last attempt is in flight. -/
def Obligations.EveryStepKeepsNodes : Prop :=
  ∀ s t : State, s.clockOk → s.portOk → s.nodesOk → step s = .next t → t.nodesOk

/-- The stream contexts stay in order after every step: each bound to an in-use entry with whose State its own agrees,
filters with histories of their length, counts within their limits, and no pair held twice. -/
def Obligations.EveryStepKeepsStreams : Prop :=
  ∀ s t : State, s.streamsOk → step s = .next t → t.streamsOk

/-- The state after reset is in order: all invariants hold there, and no command waits. That the queue of commands is
empty is the model's own field. -/
def Obligations.ResetIsInOrder : Prop :=
  State.reset.clockOk ∧ State.reset.calibratorOk ∧ State.reset.queueOk ∧ State.reset.alertOk ∧ State.reset.portOk ∧
    State.reset.nodesOk ∧ State.reset.streamsOk ∧ State.reset.receiver.ok = true ∧ State.reset.pending = []
end

