-- ==== Sys2Proof/Laws/State.lean ====
section
/-! SUPPORT. The field lemmas of the named updates of State, each true by the update's definition: what the update changes,
and every other field as it was. Later proofs cite these and unfold no record update. -/

namespace Sys2Proof.Machine

/-! ## `State.raise` -/

@[simp] theorem State.raise_holding (s : State) (f : Flag) : (s.raise f).holding = s.holding := rfl
@[simp] theorem State.raise_rate1 (s : State) (f : Flag) : (s.raise f).rate1 = s.rate1 := rfl
@[simp] theorem State.raise_rate0 (s : State) (f : Flag) : (s.raise f).rate0 = s.rate0 := rfl
@[simp] theorem State.raise_timer (s : State) (f : Flag) : (s.raise f).timer = s.timer := rfl
@[simp] theorem State.raise_sched (s : State) (f : Flag) : (s.raise f).sched = s.sched := rfl
@[simp] theorem State.raise_notices (s : State) (f : Flag) : (s.raise f).notices = s.notices := rfl
@[simp] theorem State.raise_port (s : State) (f : Flag) : (s.raise f).port = s.port := rfl
@[simp] theorem State.raise_cal (s : State) (f : Flag) : (s.raise f).cal = s.cal := rfl
@[simp] theorem State.raise_nodes (s : State) (f : Flag) : (s.raise f).nodes = s.nodes := rfl
@[simp] theorem State.raise_unclaimed (s : State) (f : Flag) : (s.raise f).unclaimed = s.unclaimed := rfl
@[simp] theorem State.raise_streams (s : State) (f : Flag) : (s.raise f).streams = s.streams := rfl
@[simp] theorem State.raise_queue (s : State) (f : Flag) : (s.raise f).queue = s.queue := rfl
@[simp] theorem State.raise_transmission (s : State) (f : Flag) : (s.raise f).transmission = s.transmission := rfl
@[simp] theorem State.raise_receiver (s : State) (f : Flag) : (s.raise f).receiver = s.receiver := rfl
@[simp] theorem State.raise_badFrames (s : State) (f : Flag) : (s.raise f).badFrames = s.badFrames := rfl
@[simp] theorem State.raise_replySlot (s : State) (f : Flag) : (s.raise f).replySlot = s.replySlot := rfl
@[simp] theorem State.raise_droppedCommands (s : State) (f : Flag) : (s.raise f).droppedCommands = s.droppedCommands := rfl
@[simp] theorem State.raise_status (s : State) (f : Flag) : (s.raise f).status = s.status.raise f s.timer.cycleNumber := rfl
@[simp] theorem State.raise_tied (s : State) (f : Flag) : (s.raise f).tied = s.tied := rfl
@[simp] theorem State.raise_freeCount (s : State) (f : Flag) : (s.raise f).freeCount = s.freeCount := rfl
@[simp] theorem State.raise_pending (s : State) (f : Flag) : (s.raise f).pending = s.pending := rfl

/-! ## `State.modifyNode` -/

@[simp] theorem State.modifyNode_holding (s : State) (i : Fin 32) (f : NodeEntry → NodeEntry) : (s.modifyNode i f).holding = s.holding := rfl
@[simp] theorem State.modifyNode_rate1 (s : State) (i : Fin 32) (f : NodeEntry → NodeEntry) : (s.modifyNode i f).rate1 = s.rate1 := rfl
@[simp] theorem State.modifyNode_rate0 (s : State) (i : Fin 32) (f : NodeEntry → NodeEntry) : (s.modifyNode i f).rate0 = s.rate0 := rfl
@[simp] theorem State.modifyNode_timer (s : State) (i : Fin 32) (f : NodeEntry → NodeEntry) : (s.modifyNode i f).timer = s.timer := rfl
@[simp] theorem State.modifyNode_sched (s : State) (i : Fin 32) (f : NodeEntry → NodeEntry) : (s.modifyNode i f).sched = s.sched := rfl
@[simp] theorem State.modifyNode_notices (s : State) (i : Fin 32) (f : NodeEntry → NodeEntry) : (s.modifyNode i f).notices = s.notices := rfl
@[simp] theorem State.modifyNode_port (s : State) (i : Fin 32) (f : NodeEntry → NodeEntry) : (s.modifyNode i f).port = s.port := rfl
@[simp] theorem State.modifyNode_cal (s : State) (i : Fin 32) (f : NodeEntry → NodeEntry) : (s.modifyNode i f).cal = s.cal := rfl
@[simp] theorem State.modifyNode_nodes (s : State) (i : Fin 32) (f : NodeEntry → NodeEntry) : (s.modifyNode i f).nodes = s.nodes.set i (s.nodes[i].map f) := rfl
@[simp] theorem State.modifyNode_unclaimed (s : State) (i : Fin 32) (f : NodeEntry → NodeEntry) : (s.modifyNode i f).unclaimed = s.unclaimed := rfl
@[simp] theorem State.modifyNode_streams (s : State) (i : Fin 32) (f : NodeEntry → NodeEntry) : (s.modifyNode i f).streams = s.streams := rfl
@[simp] theorem State.modifyNode_queue (s : State) (i : Fin 32) (f : NodeEntry → NodeEntry) : (s.modifyNode i f).queue = s.queue := rfl
@[simp] theorem State.modifyNode_transmission (s : State) (i : Fin 32) (f : NodeEntry → NodeEntry) : (s.modifyNode i f).transmission = s.transmission := rfl
@[simp] theorem State.modifyNode_receiver (s : State) (i : Fin 32) (f : NodeEntry → NodeEntry) : (s.modifyNode i f).receiver = s.receiver := rfl
@[simp] theorem State.modifyNode_badFrames (s : State) (i : Fin 32) (f : NodeEntry → NodeEntry) : (s.modifyNode i f).badFrames = s.badFrames := rfl
@[simp] theorem State.modifyNode_replySlot (s : State) (i : Fin 32) (f : NodeEntry → NodeEntry) : (s.modifyNode i f).replySlot = s.replySlot := rfl
@[simp] theorem State.modifyNode_droppedCommands (s : State) (i : Fin 32) (f : NodeEntry → NodeEntry) : (s.modifyNode i f).droppedCommands = s.droppedCommands := rfl
@[simp] theorem State.modifyNode_status (s : State) (i : Fin 32) (f : NodeEntry → NodeEntry) : (s.modifyNode i f).status = s.status := rfl
@[simp] theorem State.modifyNode_tied (s : State) (i : Fin 32) (f : NodeEntry → NodeEntry) : (s.modifyNode i f).tied = s.tied := rfl
@[simp] theorem State.modifyNode_freeCount (s : State) (i : Fin 32) (f : NodeEntry → NodeEntry) : (s.modifyNode i f).freeCount = s.freeCount := rfl
@[simp] theorem State.modifyNode_pending (s : State) (i : Fin 32) (f : NodeEntry → NodeEntry) : (s.modifyNode i f).pending = s.pending := rfl

/-! ## `State.setUnclaimed` -/

@[simp] theorem State.setUnclaimed_holding (s : State) (i : Fin 32) (n : Word16) : (s.setUnclaimed i n).holding = s.holding := rfl
@[simp] theorem State.setUnclaimed_rate1 (s : State) (i : Fin 32) (n : Word16) : (s.setUnclaimed i n).rate1 = s.rate1 := rfl
@[simp] theorem State.setUnclaimed_rate0 (s : State) (i : Fin 32) (n : Word16) : (s.setUnclaimed i n).rate0 = s.rate0 := rfl
@[simp] theorem State.setUnclaimed_timer (s : State) (i : Fin 32) (n : Word16) : (s.setUnclaimed i n).timer = s.timer := rfl
@[simp] theorem State.setUnclaimed_sched (s : State) (i : Fin 32) (n : Word16) : (s.setUnclaimed i n).sched = s.sched := rfl
@[simp] theorem State.setUnclaimed_notices (s : State) (i : Fin 32) (n : Word16) : (s.setUnclaimed i n).notices = s.notices := rfl
@[simp] theorem State.setUnclaimed_port (s : State) (i : Fin 32) (n : Word16) : (s.setUnclaimed i n).port = s.port := rfl
@[simp] theorem State.setUnclaimed_cal (s : State) (i : Fin 32) (n : Word16) : (s.setUnclaimed i n).cal = s.cal := rfl
@[simp] theorem State.setUnclaimed_nodes (s : State) (i : Fin 32) (n : Word16) : (s.setUnclaimed i n).nodes = s.nodes := rfl
@[simp] theorem State.setUnclaimed_unclaimed (s : State) (i : Fin 32) (n : Word16) : (s.setUnclaimed i n).unclaimed = s.unclaimed.set i n := rfl
@[simp] theorem State.setUnclaimed_streams (s : State) (i : Fin 32) (n : Word16) : (s.setUnclaimed i n).streams = s.streams := rfl
@[simp] theorem State.setUnclaimed_queue (s : State) (i : Fin 32) (n : Word16) : (s.setUnclaimed i n).queue = s.queue := rfl
@[simp] theorem State.setUnclaimed_transmission (s : State) (i : Fin 32) (n : Word16) : (s.setUnclaimed i n).transmission = s.transmission := rfl
@[simp] theorem State.setUnclaimed_receiver (s : State) (i : Fin 32) (n : Word16) : (s.setUnclaimed i n).receiver = s.receiver := rfl
@[simp] theorem State.setUnclaimed_badFrames (s : State) (i : Fin 32) (n : Word16) : (s.setUnclaimed i n).badFrames = s.badFrames := rfl
@[simp] theorem State.setUnclaimed_replySlot (s : State) (i : Fin 32) (n : Word16) : (s.setUnclaimed i n).replySlot = s.replySlot := rfl
@[simp] theorem State.setUnclaimed_droppedCommands (s : State) (i : Fin 32) (n : Word16) : (s.setUnclaimed i n).droppedCommands = s.droppedCommands := rfl
@[simp] theorem State.setUnclaimed_status (s : State) (i : Fin 32) (n : Word16) : (s.setUnclaimed i n).status = s.status := rfl
@[simp] theorem State.setUnclaimed_tied (s : State) (i : Fin 32) (n : Word16) : (s.setUnclaimed i n).tied = s.tied := rfl
@[simp] theorem State.setUnclaimed_freeCount (s : State) (i : Fin 32) (n : Word16) : (s.setUnclaimed i n).freeCount = s.freeCount := rfl
@[simp] theorem State.setUnclaimed_pending (s : State) (i : Fin 32) (n : Word16) : (s.setUnclaimed i n).pending = s.pending := rfl

/-! ## `State.setStream` -/

@[simp] theorem State.setStream_holding (s : State) (i : Fin 64) (c : Option StreamCtx) : (s.setStream i c).holding = s.holding := rfl
@[simp] theorem State.setStream_rate1 (s : State) (i : Fin 64) (c : Option StreamCtx) : (s.setStream i c).rate1 = s.rate1 := rfl
@[simp] theorem State.setStream_rate0 (s : State) (i : Fin 64) (c : Option StreamCtx) : (s.setStream i c).rate0 = s.rate0 := rfl
@[simp] theorem State.setStream_timer (s : State) (i : Fin 64) (c : Option StreamCtx) : (s.setStream i c).timer = s.timer := rfl
@[simp] theorem State.setStream_sched (s : State) (i : Fin 64) (c : Option StreamCtx) : (s.setStream i c).sched = s.sched := rfl
@[simp] theorem State.setStream_notices (s : State) (i : Fin 64) (c : Option StreamCtx) : (s.setStream i c).notices = s.notices := rfl
@[simp] theorem State.setStream_port (s : State) (i : Fin 64) (c : Option StreamCtx) : (s.setStream i c).port = s.port := rfl
@[simp] theorem State.setStream_cal (s : State) (i : Fin 64) (c : Option StreamCtx) : (s.setStream i c).cal = s.cal := rfl
@[simp] theorem State.setStream_nodes (s : State) (i : Fin 64) (c : Option StreamCtx) : (s.setStream i c).nodes = s.nodes := rfl
@[simp] theorem State.setStream_unclaimed (s : State) (i : Fin 64) (c : Option StreamCtx) : (s.setStream i c).unclaimed = s.unclaimed := rfl
@[simp] theorem State.setStream_streams (s : State) (i : Fin 64) (c : Option StreamCtx) : (s.setStream i c).streams = s.streams.set i c := rfl
@[simp] theorem State.setStream_queue (s : State) (i : Fin 64) (c : Option StreamCtx) : (s.setStream i c).queue = s.queue := rfl
@[simp] theorem State.setStream_transmission (s : State) (i : Fin 64) (c : Option StreamCtx) : (s.setStream i c).transmission = s.transmission := rfl
@[simp] theorem State.setStream_receiver (s : State) (i : Fin 64) (c : Option StreamCtx) : (s.setStream i c).receiver = s.receiver := rfl
@[simp] theorem State.setStream_badFrames (s : State) (i : Fin 64) (c : Option StreamCtx) : (s.setStream i c).badFrames = s.badFrames := rfl
@[simp] theorem State.setStream_replySlot (s : State) (i : Fin 64) (c : Option StreamCtx) : (s.setStream i c).replySlot = s.replySlot := rfl
@[simp] theorem State.setStream_droppedCommands (s : State) (i : Fin 64) (c : Option StreamCtx) : (s.setStream i c).droppedCommands = s.droppedCommands := rfl
@[simp] theorem State.setStream_status (s : State) (i : Fin 64) (c : Option StreamCtx) : (s.setStream i c).status = s.status := rfl
@[simp] theorem State.setStream_tied (s : State) (i : Fin 64) (c : Option StreamCtx) : (s.setStream i c).tied = s.tied := rfl
@[simp] theorem State.setStream_freeCount (s : State) (i : Fin 64) (c : Option StreamCtx) : (s.setStream i c).freeCount = s.freeCount := rfl
@[simp] theorem State.setStream_pending (s : State) (i : Fin 64) (c : Option StreamCtx) : (s.setStream i c).pending = s.pending := rfl

/-! ## `State.enterHalted` -/

@[simp] theorem State.enterHalted_holding (s : State) : (s.enterHalted).holding = s.holding := rfl
@[simp] theorem State.enterHalted_rate1 (s : State) : (s.enterHalted).rate1 = s.rate1 := rfl
@[simp] theorem State.enterHalted_rate0 (s : State) : (s.enterHalted).rate0 = s.rate0 := rfl
@[simp] theorem State.enterHalted_timer (s : State) : (s.enterHalted).timer = { s.timer with engine := .halted } := rfl
@[simp] theorem State.enterHalted_sched (s : State) : (s.enterHalted).sched = s.sched := rfl
@[simp] theorem State.enterHalted_notices (s : State) : (s.enterHalted).notices = s.notices := rfl
@[simp] theorem State.enterHalted_port (s : State) : (s.enterHalted).port = s.port := rfl
@[simp] theorem State.enterHalted_cal (s : State) : (s.enterHalted).cal = s.cal := rfl
@[simp] theorem State.enterHalted_nodes (s : State) : (s.enterHalted).nodes = s.nodes := rfl
@[simp] theorem State.enterHalted_unclaimed (s : State) : (s.enterHalted).unclaimed = s.unclaimed := rfl
@[simp] theorem State.enterHalted_streams (s : State) : (s.enterHalted).streams = s.streams := rfl
@[simp] theorem State.enterHalted_queue (s : State) : (s.enterHalted).queue = s.queue.close fun c => { c with halt := true } := rfl
@[simp] theorem State.enterHalted_transmission (s : State) : (s.enterHalted).transmission = s.transmission := rfl
@[simp] theorem State.enterHalted_receiver (s : State) : (s.enterHalted).receiver = s.receiver := rfl
@[simp] theorem State.enterHalted_badFrames (s : State) : (s.enterHalted).badFrames = s.badFrames := rfl
@[simp] theorem State.enterHalted_replySlot (s : State) : (s.enterHalted).replySlot = s.replySlot := rfl
@[simp] theorem State.enterHalted_droppedCommands (s : State) : (s.enterHalted).droppedCommands = s.droppedCommands := rfl
@[simp] theorem State.enterHalted_status (s : State) : (s.enterHalted).status = s.status := rfl
@[simp] theorem State.enterHalted_tied (s : State) : (s.enterHalted).tied = s.tied := rfl
@[simp] theorem State.enterHalted_freeCount (s : State) : (s.enterHalted).freeCount = s.freeCount := rfl
@[simp] theorem State.enterHalted_pending (s : State) : (s.enterHalted).pending = s.pending := rfl

/-! ## `State.portToIdle` -/

@[simp] theorem State.portToIdle_holding (s : State) : (s.portToIdle).holding = s.holding := rfl
@[simp] theorem State.portToIdle_rate1 (s : State) : (s.portToIdle).rate1 = s.rate1 := rfl
@[simp] theorem State.portToIdle_rate0 (s : State) : (s.portToIdle).rate0 = s.rate0 := rfl
@[simp] theorem State.portToIdle_timer (s : State) : (s.portToIdle).timer = s.timer := rfl
@[simp] theorem State.portToIdle_sched (s : State) : (s.portToIdle).sched = s.sched := rfl
@[simp] theorem State.portToIdle_notices (s : State) : (s.portToIdle).notices = s.notices := rfl
@[simp] theorem State.portToIdle_port (s : State) : (s.portToIdle).port = { state := .idle, exchange := none, replyTimer := none, turnGap := s.timer.timing.startGap, fldDe := false } := rfl
@[simp] theorem State.portToIdle_cal (s : State) : (s.portToIdle).cal = s.cal := rfl
@[simp] theorem State.portToIdle_nodes (s : State) : (s.portToIdle).nodes = s.nodes := rfl
@[simp] theorem State.portToIdle_unclaimed (s : State) : (s.portToIdle).unclaimed = s.unclaimed := rfl
@[simp] theorem State.portToIdle_streams (s : State) : (s.portToIdle).streams = s.streams := rfl
@[simp] theorem State.portToIdle_queue (s : State) : (s.portToIdle).queue = s.queue := rfl
@[simp] theorem State.portToIdle_transmission (s : State) : (s.portToIdle).transmission = s.transmission := rfl
@[simp] theorem State.portToIdle_receiver (s : State) : (s.portToIdle).receiver = s.receiver := rfl
@[simp] theorem State.portToIdle_badFrames (s : State) : (s.portToIdle).badFrames = s.badFrames := rfl
@[simp] theorem State.portToIdle_replySlot (s : State) : (s.portToIdle).replySlot = s.replySlot := rfl
@[simp] theorem State.portToIdle_droppedCommands (s : State) : (s.portToIdle).droppedCommands = s.droppedCommands := rfl
@[simp] theorem State.portToIdle_status (s : State) : (s.portToIdle).status = s.status := rfl
@[simp] theorem State.portToIdle_tied (s : State) : (s.portToIdle).tied = s.tied := rfl
@[simp] theorem State.portToIdle_freeCount (s : State) : (s.portToIdle).freeCount = s.freeCount := rfl
@[simp] theorem State.portToIdle_pending (s : State) : (s.portToIdle).pending = s.pending := rfl

/-! ## `State.replied` -/

@[simp] theorem State.replied_holding (s : State) (opcode : Byte) (ref : Word16) (st : Status) (results : List Byte) : (s.replied opcode ref st results).holding = s.holding := rfl
@[simp] theorem State.replied_rate1 (s : State) (opcode : Byte) (ref : Word16) (st : Status) (results : List Byte) : (s.replied opcode ref st results).rate1 = s.rate1 := rfl
@[simp] theorem State.replied_rate0 (s : State) (opcode : Byte) (ref : Word16) (st : Status) (results : List Byte) : (s.replied opcode ref st results).rate0 = s.rate0 := rfl
@[simp] theorem State.replied_timer (s : State) (opcode : Byte) (ref : Word16) (st : Status) (results : List Byte) : (s.replied opcode ref st results).timer = s.timer := rfl
@[simp] theorem State.replied_sched (s : State) (opcode : Byte) (ref : Word16) (st : Status) (results : List Byte) : (s.replied opcode ref st results).sched = s.sched := rfl
@[simp] theorem State.replied_notices (s : State) (opcode : Byte) (ref : Word16) (st : Status) (results : List Byte) : (s.replied opcode ref st results).notices = s.notices := rfl
@[simp] theorem State.replied_port (s : State) (opcode : Byte) (ref : Word16) (st : Status) (results : List Byte) : (s.replied opcode ref st results).port = s.port := rfl
@[simp] theorem State.replied_cal (s : State) (opcode : Byte) (ref : Word16) (st : Status) (results : List Byte) : (s.replied opcode ref st results).cal = s.cal := rfl
@[simp] theorem State.replied_nodes (s : State) (opcode : Byte) (ref : Word16) (st : Status) (results : List Byte) : (s.replied opcode ref st results).nodes = s.nodes := rfl
@[simp] theorem State.replied_unclaimed (s : State) (opcode : Byte) (ref : Word16) (st : Status) (results : List Byte) : (s.replied opcode ref st results).unclaimed = s.unclaimed := rfl
@[simp] theorem State.replied_streams (s : State) (opcode : Byte) (ref : Word16) (st : Status) (results : List Byte) : (s.replied opcode ref st results).streams = s.streams := rfl
@[simp] theorem State.replied_queue (s : State) (opcode : Byte) (ref : Word16) (st : Status) (results : List Byte) : (s.replied opcode ref st results).queue = s.queue := rfl
@[simp] theorem State.replied_transmission (s : State) (opcode : Byte) (ref : Word16) (st : Status) (results : List Byte) : (s.replied opcode ref st results).transmission = s.transmission := rfl
@[simp] theorem State.replied_receiver (s : State) (opcode : Byte) (ref : Word16) (st : Status) (results : List Byte) : (s.replied opcode ref st results).receiver = s.receiver := rfl
@[simp] theorem State.replied_badFrames (s : State) (opcode : Byte) (ref : Word16) (st : Status) (results : List Byte) : (s.replied opcode ref st results).badFrames = s.badFrames := rfl
@[simp] theorem State.replied_replySlot (s : State) (opcode : Byte) (ref : Word16) (st : Status) (results : List Byte) : (s.replied opcode ref st results).replySlot = some { opcode := opcode, ref := ref, status := st, results := results } := rfl
@[simp] theorem State.replied_droppedCommands (s : State) (opcode : Byte) (ref : Word16) (st : Status) (results : List Byte) : (s.replied opcode ref st results).droppedCommands = s.droppedCommands := rfl
@[simp] theorem State.replied_status (s : State) (opcode : Byte) (ref : Word16) (st : Status) (results : List Byte) : (s.replied opcode ref st results).status = s.status := rfl
@[simp] theorem State.replied_tied (s : State) (opcode : Byte) (ref : Word16) (st : Status) (results : List Byte) : (s.replied opcode ref st results).tied = s.tied := rfl
@[simp] theorem State.replied_freeCount (s : State) (opcode : Byte) (ref : Word16) (st : Status) (results : List Byte) : (s.replied opcode ref st results).freeCount = s.freeCount := rfl
@[simp] theorem State.replied_pending (s : State) (opcode : Byte) (ref : Word16) (st : Status) (results : List Byte) : (s.replied opcode ref st results).pending = s.pending := rfl

/-! ## `State.hold` -/

@[simp] theorem State.hold_holding (s : State) (cause : ResetCause) : (s.hold cause).holding = some cause := rfl
@[simp] theorem State.hold_rate1 (s : State) (cause : ResetCause) : (s.hold cause).rate1 = s.rate1 := rfl
@[simp] theorem State.hold_rate0 (s : State) (cause : ResetCause) : (s.hold cause).rate0 = s.rate0 := rfl
@[simp] theorem State.hold_timer (s : State) (cause : ResetCause) : (s.hold cause).timer = s.timer := rfl
@[simp] theorem State.hold_sched (s : State) (cause : ResetCause) : (s.hold cause).sched = s.sched := rfl
@[simp] theorem State.hold_notices (s : State) (cause : ResetCause) : (s.hold cause).notices = s.notices := rfl
@[simp] theorem State.hold_port (s : State) (cause : ResetCause) : (s.hold cause).port = FieldPort.abandoned := rfl
@[simp] theorem State.hold_cal (s : State) (cause : ResetCause) : (s.hold cause).cal = s.cal := rfl
@[simp] theorem State.hold_nodes (s : State) (cause : ResetCause) : (s.hold cause).nodes = s.nodes := rfl
@[simp] theorem State.hold_unclaimed (s : State) (cause : ResetCause) : (s.hold cause).unclaimed = s.unclaimed := rfl
@[simp] theorem State.hold_streams (s : State) (cause : ResetCause) : (s.hold cause).streams = s.streams := rfl
@[simp] theorem State.hold_queue (s : State) (cause : ResetCause) : (s.hold cause).queue = s.queue := rfl
@[simp] theorem State.hold_transmission (s : State) (cause : ResetCause) : (s.hold cause).transmission = none := rfl
@[simp] theorem State.hold_receiver (s : State) (cause : ResetCause) : (s.hold cause).receiver = s.receiver := rfl
@[simp] theorem State.hold_badFrames (s : State) (cause : ResetCause) : (s.hold cause).badFrames = s.badFrames := rfl
@[simp] theorem State.hold_replySlot (s : State) (cause : ResetCause) : (s.hold cause).replySlot = s.replySlot := rfl
@[simp] theorem State.hold_droppedCommands (s : State) (cause : ResetCause) : (s.hold cause).droppedCommands = s.droppedCommands := rfl
@[simp] theorem State.hold_status (s : State) (cause : ResetCause) : (s.hold cause).status = { s.status with alertN := false } := rfl
@[simp] theorem State.hold_tied (s : State) (cause : ResetCause) : (s.hold cause).tied = [] := rfl
@[simp] theorem State.hold_freeCount (s : State) (cause : ResetCause) : (s.hold cause).freeCount = s.freeCount := rfl
@[simp] theorem State.hold_pending (s : State) (cause : ResetCause) : (s.hold cause).pending = s.pending := rfl

/-! ## `State.tick` -/

@[simp] theorem State.tick_holding (s : State) : (s.tick).holding = s.holding := rfl
@[simp] theorem State.tick_rate1 (s : State) : (s.tick).rate1 = s.rate1 := rfl
@[simp] theorem State.tick_rate0 (s : State) : (s.tick).rate0 = s.rate0 := rfl
@[simp] theorem State.tick_sched (s : State) : (s.tick).sched = s.sched := rfl
@[simp] theorem State.tick_notices (s : State) : (s.tick).notices = s.notices := rfl
@[simp] theorem State.tick_port (s : State) : (s.tick).port = { s.port with replyTimer := countDown s.port.replyTimer, turnGap := countDown s.port.turnGap } := rfl
@[simp] theorem State.tick_cal (s : State) : (s.tick).cal = s.cal := rfl
@[simp] theorem State.tick_nodes (s : State) : (s.tick).nodes = s.nodes := rfl
@[simp] theorem State.tick_unclaimed (s : State) : (s.tick).unclaimed = s.unclaimed := rfl
@[simp] theorem State.tick_streams (s : State) : (s.tick).streams = s.streams.map fun c => c.map StreamCtx.tick := rfl
@[simp] theorem State.tick_queue (s : State) : (s.tick).queue = s.queue := rfl
@[simp] theorem State.tick_transmission (s : State) : (s.tick).transmission = s.transmission := rfl
@[simp] theorem State.tick_receiver (s : State) : (s.tick).receiver = s.receiver := rfl
@[simp] theorem State.tick_badFrames (s : State) : (s.tick).badFrames = s.badFrames := rfl
@[simp] theorem State.tick_replySlot (s : State) : (s.tick).replySlot = s.replySlot := rfl
@[simp] theorem State.tick_droppedCommands (s : State) : (s.tick).droppedCommands = s.droppedCommands := rfl
@[simp] theorem State.tick_status (s : State) : (s.tick).status = s.status := rfl
@[simp] theorem State.tick_tied (s : State) : (s.tick).tied = s.tied := rfl
@[simp] theorem State.tick_freeCount (s : State) : (s.tick).freeCount = s.freeCount := rfl
@[simp] theorem State.tick_pending (s : State) : (s.tick).pending = s.pending := rfl

/-! ## `Answer.place` -/

@[simp] theorem Answer.place_holding (a : Answer) (opcode : Byte) (ref : Word16) : ((a.place opcode ref)).holding = a.state.holding := rfl
@[simp] theorem Answer.place_rate1 (a : Answer) (opcode : Byte) (ref : Word16) : ((a.place opcode ref)).rate1 = a.state.rate1 := rfl
@[simp] theorem Answer.place_rate0 (a : Answer) (opcode : Byte) (ref : Word16) : ((a.place opcode ref)).rate0 = a.state.rate0 := rfl
@[simp] theorem Answer.place_timer (a : Answer) (opcode : Byte) (ref : Word16) : ((a.place opcode ref)).timer = a.state.timer := rfl
@[simp] theorem Answer.place_sched (a : Answer) (opcode : Byte) (ref : Word16) : ((a.place opcode ref)).sched = a.state.sched := rfl
@[simp] theorem Answer.place_notices (a : Answer) (opcode : Byte) (ref : Word16) : ((a.place opcode ref)).notices = a.state.notices := rfl
@[simp] theorem Answer.place_port (a : Answer) (opcode : Byte) (ref : Word16) : ((a.place opcode ref)).port = a.state.port := rfl
@[simp] theorem Answer.place_cal (a : Answer) (opcode : Byte) (ref : Word16) : ((a.place opcode ref)).cal = a.state.cal := rfl
@[simp] theorem Answer.place_nodes (a : Answer) (opcode : Byte) (ref : Word16) : ((a.place opcode ref)).nodes = a.state.nodes := rfl
@[simp] theorem Answer.place_unclaimed (a : Answer) (opcode : Byte) (ref : Word16) : ((a.place opcode ref)).unclaimed = a.state.unclaimed := rfl
@[simp] theorem Answer.place_streams (a : Answer) (opcode : Byte) (ref : Word16) : ((a.place opcode ref)).streams = a.state.streams := rfl
@[simp] theorem Answer.place_queue (a : Answer) (opcode : Byte) (ref : Word16) : ((a.place opcode ref)).queue = a.state.queue := rfl
@[simp] theorem Answer.place_transmission (a : Answer) (opcode : Byte) (ref : Word16) : ((a.place opcode ref)).transmission = a.state.transmission := rfl
@[simp] theorem Answer.place_receiver (a : Answer) (opcode : Byte) (ref : Word16) : ((a.place opcode ref)).receiver = a.state.receiver := rfl
@[simp] theorem Answer.place_badFrames (a : Answer) (opcode : Byte) (ref : Word16) : ((a.place opcode ref)).badFrames = a.state.badFrames := rfl
@[simp] theorem Answer.place_replySlot (a : Answer) (opcode : Byte) (ref : Word16) : ((a.place opcode ref)).replySlot = some { opcode := opcode, ref := ref, status := a.status, results := a.results } := rfl
@[simp] theorem Answer.place_droppedCommands (a : Answer) (opcode : Byte) (ref : Word16) : ((a.place opcode ref)).droppedCommands = a.state.droppedCommands := rfl
@[simp] theorem Answer.place_status (a : Answer) (opcode : Byte) (ref : Word16) : ((a.place opcode ref)).status = a.state.status := rfl
@[simp] theorem Answer.place_tied (a : Answer) (opcode : Byte) (ref : Word16) : ((a.place opcode ref)).tied = a.state.tied := rfl
@[simp] theorem Answer.place_freeCount (a : Answer) (opcode : Byte) (ref : Word16) : ((a.place opcode ref)).freeCount = a.state.freeCount := rfl
@[simp] theorem Answer.place_pending (a : Answer) (opcode : Byte) (ref : Word16) : ((a.place opcode ref)).pending = a.state.pending := rfl

/-! ## `State.settle` -/

/-- Noting what began to wait together changes nothing but the note. -/
theorem State.settle_spec (s t : State) : s.settle t = { t with tied := (s.settle t).tied } := by
  unfold State.settle; split <;> [rfl; split <;> rfl]

/-- Of the state before an event the note reads the transmission and the frames that wait, and nothing else. -/
theorem State.settle_congr {s s' : State} (transmission : s.transmission = s'.transmission) (waiting : s.waiting = s'.waiting)
    (t : State) : s.settle t = s'.settle t := by
  unfold State.settle
  rw [transmission, waiting]

@[simp] theorem State.settle_holding (s t : State) : (s.settle t).holding = t.holding := by
  unfold State.settle; split <;> [rfl; split <;> rfl]
@[simp] theorem State.settle_rate1 (s t : State) : (s.settle t).rate1 = t.rate1 := by
  unfold State.settle; split <;> [rfl; split <;> rfl]
@[simp] theorem State.settle_rate0 (s t : State) : (s.settle t).rate0 = t.rate0 := by
  unfold State.settle; split <;> [rfl; split <;> rfl]
@[simp] theorem State.settle_timer (s t : State) : (s.settle t).timer = t.timer := by
  unfold State.settle; split <;> [rfl; split <;> rfl]
@[simp] theorem State.settle_sched (s t : State) : (s.settle t).sched = t.sched := by
  unfold State.settle; split <;> [rfl; split <;> rfl]
@[simp] theorem State.settle_notices (s t : State) : (s.settle t).notices = t.notices := by
  unfold State.settle; split <;> [rfl; split <;> rfl]
@[simp] theorem State.settle_port (s t : State) : (s.settle t).port = t.port := by
  unfold State.settle; split <;> [rfl; split <;> rfl]
@[simp] theorem State.settle_cal (s t : State) : (s.settle t).cal = t.cal := by
  unfold State.settle; split <;> [rfl; split <;> rfl]
@[simp] theorem State.settle_nodes (s t : State) : (s.settle t).nodes = t.nodes := by
  unfold State.settle; split <;> [rfl; split <;> rfl]
@[simp] theorem State.settle_unclaimed (s t : State) : (s.settle t).unclaimed = t.unclaimed := by
  unfold State.settle; split <;> [rfl; split <;> rfl]
@[simp] theorem State.settle_streams (s t : State) : (s.settle t).streams = t.streams := by
  unfold State.settle; split <;> [rfl; split <;> rfl]
@[simp] theorem State.settle_queue (s t : State) : (s.settle t).queue = t.queue := by
  unfold State.settle; split <;> [rfl; split <;> rfl]
@[simp] theorem State.settle_transmission (s t : State) : (s.settle t).transmission = t.transmission := by
  unfold State.settle; split <;> [rfl; split <;> rfl]
@[simp] theorem State.settle_receiver (s t : State) : (s.settle t).receiver = t.receiver := by
  unfold State.settle; split <;> [rfl; split <;> rfl]
@[simp] theorem State.settle_badFrames (s t : State) : (s.settle t).badFrames = t.badFrames := by
  unfold State.settle; split <;> [rfl; split <;> rfl]
@[simp] theorem State.settle_replySlot (s t : State) : (s.settle t).replySlot = t.replySlot := by
  unfold State.settle; split <;> [rfl; split <;> rfl]
@[simp] theorem State.settle_droppedCommands (s t : State) : (s.settle t).droppedCommands = t.droppedCommands := by
  unfold State.settle; split <;> [rfl; split <;> rfl]
@[simp] theorem State.settle_status (s t : State) : (s.settle t).status = t.status := by
  unfold State.settle; split <;> [rfl; split <;> rfl]
@[simp] theorem State.settle_freeCount (s t : State) : (s.settle t).freeCount = t.freeCount := by
  unfold State.settle; split <;> [rfl; split <;> rfl]
@[simp] theorem State.settle_pending (s t : State) : (s.settle t).pending = t.pending := by
  unfold State.settle; split <;> [rfl; split <;> rfl]

/-! ## `State.addEntry` -/

@[simp] theorem State.addEntry_holding (s : State) (e : Entry) : (s.addEntry e).holding = s.holding := by
  unfold State.addEntry; split <;> rfl
@[simp] theorem State.addEntry_rate1 (s : State) (e : Entry) : (s.addEntry e).rate1 = s.rate1 := by
  unfold State.addEntry; split <;> rfl
@[simp] theorem State.addEntry_rate0 (s : State) (e : Entry) : (s.addEntry e).rate0 = s.rate0 := by
  unfold State.addEntry; split <;> rfl
@[simp] theorem State.addEntry_timer (s : State) (e : Entry) : (s.addEntry e).timer = s.timer := by
  unfold State.addEntry; split <;> rfl
@[simp] theorem State.addEntry_sched (s : State) (e : Entry) : (s.addEntry e).sched = s.sched := by
  unfold State.addEntry; split <;> rfl
@[simp] theorem State.addEntry_notices (s : State) (e : Entry) : (s.addEntry e).notices = s.notices := by
  unfold State.addEntry; split <;> rfl
@[simp] theorem State.addEntry_port (s : State) (e : Entry) : (s.addEntry e).port = s.port := by
  unfold State.addEntry; split <;> rfl
@[simp] theorem State.addEntry_cal (s : State) (e : Entry) : (s.addEntry e).cal = s.cal := by
  unfold State.addEntry; split <;> rfl
@[simp] theorem State.addEntry_nodes (s : State) (e : Entry) : (s.addEntry e).nodes = s.nodes := by
  unfold State.addEntry; split <;> rfl
@[simp] theorem State.addEntry_unclaimed (s : State) (e : Entry) : (s.addEntry e).unclaimed = s.unclaimed := by
  unfold State.addEntry; split <;> rfl
@[simp] theorem State.addEntry_streams (s : State) (e : Entry) : (s.addEntry e).streams = s.streams := by
  unfold State.addEntry; split <;> rfl
@[simp] theorem State.addEntry_transmission (s : State) (e : Entry) : (s.addEntry e).transmission = s.transmission := by
  unfold State.addEntry; split <;> rfl
@[simp] theorem State.addEntry_receiver (s : State) (e : Entry) : (s.addEntry e).receiver = s.receiver := by
  unfold State.addEntry; split <;> rfl
@[simp] theorem State.addEntry_badFrames (s : State) (e : Entry) : (s.addEntry e).badFrames = s.badFrames := by
  unfold State.addEntry; split <;> rfl
@[simp] theorem State.addEntry_replySlot (s : State) (e : Entry) : (s.addEntry e).replySlot = s.replySlot := by
  unfold State.addEntry; split <;> rfl
@[simp] theorem State.addEntry_droppedCommands (s : State) (e : Entry) : (s.addEntry e).droppedCommands = s.droppedCommands := by
  unfold State.addEntry; split <;> rfl
@[simp] theorem State.addEntry_tied (s : State) (e : Entry) : (s.addEntry e).tied = s.tied := by
  unfold State.addEntry; split <;> rfl
@[simp] theorem State.addEntry_freeCount (s : State) (e : Entry) : (s.addEntry e).freeCount = s.freeCount := by
  unfold State.addEntry; split <;> rfl
@[simp] theorem State.addEntry_pending (s : State) (e : Entry) : (s.addEntry e).pending = s.pending := by
  unfold State.addEntry; split <;> rfl

/-! ## `State.effect` -/

@[simp] theorem State.effect_holding (s : State) (e : Effect) : (s.effect e).holding = s.holding := by
  cases e <;> simp [State.effect]
@[simp] theorem State.effect_rate1 (s : State) (e : Effect) : (s.effect e).rate1 = s.rate1 := by
  cases e <;> simp [State.effect]
@[simp] theorem State.effect_rate0 (s : State) (e : Effect) : (s.effect e).rate0 = s.rate0 := by
  cases e <;> simp [State.effect]
@[simp] theorem State.effect_timer (s : State) (e : Effect) : (s.effect e).timer = s.timer := by
  cases e <;> simp [State.effect]
@[simp] theorem State.effect_sched (s : State) (e : Effect) : (s.effect e).sched = s.sched := by
  cases e <;> simp [State.effect]
@[simp] theorem State.effect_notices (s : State) (e : Effect) : (s.effect e).notices = s.notices := by
  cases e <;> simp [State.effect]
@[simp] theorem State.effect_port (s : State) (e : Effect) : (s.effect e).port = s.port := by
  cases e <;> simp [State.effect]
@[simp] theorem State.effect_cal (s : State) (e : Effect) : (s.effect e).cal = s.cal := by
  cases e <;> simp [State.effect]
@[simp] theorem State.effect_nodes (s : State) (e : Effect) : (s.effect e).nodes = s.nodes := by
  cases e <;> simp [State.effect]
@[simp] theorem State.effect_unclaimed (s : State) (e : Effect) : (s.effect e).unclaimed = s.unclaimed := by
  cases e <;> simp [State.effect]
@[simp] theorem State.effect_streams (s : State) (e : Effect) : (s.effect e).streams = s.streams := by
  cases e <;> simp [State.effect]
@[simp] theorem State.effect_transmission (s : State) (e : Effect) : (s.effect e).transmission = s.transmission := by
  cases e <;> simp [State.effect]
@[simp] theorem State.effect_receiver (s : State) (e : Effect) : (s.effect e).receiver = s.receiver := by
  cases e <;> simp [State.effect]
@[simp] theorem State.effect_badFrames (s : State) (e : Effect) : (s.effect e).badFrames = s.badFrames := by
  cases e <;> simp [State.effect]
@[simp] theorem State.effect_replySlot (s : State) (e : Effect) : (s.effect e).replySlot = s.replySlot := by
  cases e <;> simp [State.effect]
@[simp] theorem State.effect_droppedCommands (s : State) (e : Effect) : (s.effect e).droppedCommands = s.droppedCommands := by
  cases e <;> simp [State.effect]
@[simp] theorem State.effect_tied (s : State) (e : Effect) : (s.effect e).tied = s.tied := by
  cases e <;> simp [State.effect]
@[simp] theorem State.effect_freeCount (s : State) (e : Effect) : (s.effect e).freeCount = s.freeCount := by
  cases e <;> simp [State.effect]
@[simp] theorem State.effect_pending (s : State) (e : Effect) : (s.effect e).pending = s.pending := by
  cases e <;> simp [State.effect]

/-! ## `State.emit` -/

theorem State.emit_nil (s : State) : s.emit [] = s := rfl

theorem State.emit_cons (s : State) (e : Effect) (es : List Effect) : s.emit (e :: es) = (s.effect e).emit es := rfl

theorem State.emit_append (s : State) (xs ys : List Effect) : s.emit (xs ++ ys) = (s.emit xs).emit ys := by
  simp [State.emit]

@[simp] theorem State.emit_holding (s : State) (es : List Effect) : (s.emit es).holding = s.holding := by
  induction es generalizing s with
  | nil => rfl
  | cons e es ih => simp [State.emit_cons, ih]
@[simp] theorem State.emit_rate1 (s : State) (es : List Effect) : (s.emit es).rate1 = s.rate1 := by
  induction es generalizing s with
  | nil => rfl
  | cons e es ih => simp [State.emit_cons, ih]
@[simp] theorem State.emit_rate0 (s : State) (es : List Effect) : (s.emit es).rate0 = s.rate0 := by
  induction es generalizing s with
  | nil => rfl
  | cons e es ih => simp [State.emit_cons, ih]
@[simp] theorem State.emit_timer (s : State) (es : List Effect) : (s.emit es).timer = s.timer := by
  induction es generalizing s with
  | nil => rfl
  | cons e es ih => simp [State.emit_cons, ih]
@[simp] theorem State.emit_sched (s : State) (es : List Effect) : (s.emit es).sched = s.sched := by
  induction es generalizing s with
  | nil => rfl
  | cons e es ih => simp [State.emit_cons, ih]
@[simp] theorem State.emit_notices (s : State) (es : List Effect) : (s.emit es).notices = s.notices := by
  induction es generalizing s with
  | nil => rfl
  | cons e es ih => simp [State.emit_cons, ih]
@[simp] theorem State.emit_port (s : State) (es : List Effect) : (s.emit es).port = s.port := by
  induction es generalizing s with
  | nil => rfl
  | cons e es ih => simp [State.emit_cons, ih]
@[simp] theorem State.emit_cal (s : State) (es : List Effect) : (s.emit es).cal = s.cal := by
  induction es generalizing s with
  | nil => rfl
  | cons e es ih => simp [State.emit_cons, ih]
@[simp] theorem State.emit_nodes (s : State) (es : List Effect) : (s.emit es).nodes = s.nodes := by
  induction es generalizing s with
  | nil => rfl
  | cons e es ih => simp [State.emit_cons, ih]
@[simp] theorem State.emit_unclaimed (s : State) (es : List Effect) : (s.emit es).unclaimed = s.unclaimed := by
  induction es generalizing s with
  | nil => rfl
  | cons e es ih => simp [State.emit_cons, ih]
@[simp] theorem State.emit_streams (s : State) (es : List Effect) : (s.emit es).streams = s.streams := by
  induction es generalizing s with
  | nil => rfl
  | cons e es ih => simp [State.emit_cons, ih]
@[simp] theorem State.emit_transmission (s : State) (es : List Effect) : (s.emit es).transmission = s.transmission := by
  induction es generalizing s with
  | nil => rfl
  | cons e es ih => simp [State.emit_cons, ih]
@[simp] theorem State.emit_receiver (s : State) (es : List Effect) : (s.emit es).receiver = s.receiver := by
  induction es generalizing s with
  | nil => rfl
  | cons e es ih => simp [State.emit_cons, ih]
@[simp] theorem State.emit_badFrames (s : State) (es : List Effect) : (s.emit es).badFrames = s.badFrames := by
  induction es generalizing s with
  | nil => rfl
  | cons e es ih => simp [State.emit_cons, ih]
@[simp] theorem State.emit_replySlot (s : State) (es : List Effect) : (s.emit es).replySlot = s.replySlot := by
  induction es generalizing s with
  | nil => rfl
  | cons e es ih => simp [State.emit_cons, ih]
@[simp] theorem State.emit_droppedCommands (s : State) (es : List Effect) : (s.emit es).droppedCommands = s.droppedCommands := by
  induction es generalizing s with
  | nil => rfl
  | cons e es ih => simp [State.emit_cons, ih]
@[simp] theorem State.emit_tied (s : State) (es : List Effect) : (s.emit es).tied = s.tied := by
  induction es generalizing s with
  | nil => rfl
  | cons e es ih => simp [State.emit_cons, ih]
@[simp] theorem State.emit_freeCount (s : State) (es : List Effect) : (s.emit es).freeCount = s.freeCount := by
  induction es generalizing s with
  | nil => rfl
  | cons e es ih => simp [State.emit_cons, ih]
@[simp] theorem State.emit_pending (s : State) (es : List Effect) : (s.emit es).pending = s.pending := by
  induction es generalizing s with
  | nil => rfl
  | cons e es ih => simp [State.emit_cons, ih]

/-! ## `State.eachStream` -/

@[simp] theorem State.eachStream_holding (s : State) (f : Fin 64 → StreamCtx → StreamCtx × List Effect) : (s.eachStream f).holding = s.holding := by
  simp [State.eachStream]
@[simp] theorem State.eachStream_rate1 (s : State) (f : Fin 64 → StreamCtx → StreamCtx × List Effect) : (s.eachStream f).rate1 = s.rate1 := by
  simp [State.eachStream]
@[simp] theorem State.eachStream_rate0 (s : State) (f : Fin 64 → StreamCtx → StreamCtx × List Effect) : (s.eachStream f).rate0 = s.rate0 := by
  simp [State.eachStream]
@[simp] theorem State.eachStream_timer (s : State) (f : Fin 64 → StreamCtx → StreamCtx × List Effect) : (s.eachStream f).timer = s.timer := by
  simp [State.eachStream]
@[simp] theorem State.eachStream_sched (s : State) (f : Fin 64 → StreamCtx → StreamCtx × List Effect) : (s.eachStream f).sched = s.sched := by
  simp [State.eachStream]
@[simp] theorem State.eachStream_notices (s : State) (f : Fin 64 → StreamCtx → StreamCtx × List Effect) : (s.eachStream f).notices = s.notices := by
  simp [State.eachStream]
@[simp] theorem State.eachStream_port (s : State) (f : Fin 64 → StreamCtx → StreamCtx × List Effect) : (s.eachStream f).port = s.port := by
  simp [State.eachStream]
@[simp] theorem State.eachStream_cal (s : State) (f : Fin 64 → StreamCtx → StreamCtx × List Effect) : (s.eachStream f).cal = s.cal := by
  simp [State.eachStream]
@[simp] theorem State.eachStream_nodes (s : State) (f : Fin 64 → StreamCtx → StreamCtx × List Effect) : (s.eachStream f).nodes = s.nodes := by
  simp [State.eachStream]
@[simp] theorem State.eachStream_unclaimed (s : State) (f : Fin 64 → StreamCtx → StreamCtx × List Effect) : (s.eachStream f).unclaimed = s.unclaimed := by
  simp [State.eachStream]
@[simp] theorem State.eachStream_transmission (s : State) (f : Fin 64 → StreamCtx → StreamCtx × List Effect) : (s.eachStream f).transmission = s.transmission := by
  simp [State.eachStream]
@[simp] theorem State.eachStream_receiver (s : State) (f : Fin 64 → StreamCtx → StreamCtx × List Effect) : (s.eachStream f).receiver = s.receiver := by
  simp [State.eachStream]
@[simp] theorem State.eachStream_badFrames (s : State) (f : Fin 64 → StreamCtx → StreamCtx × List Effect) : (s.eachStream f).badFrames = s.badFrames := by
  simp [State.eachStream]
@[simp] theorem State.eachStream_replySlot (s : State) (f : Fin 64 → StreamCtx → StreamCtx × List Effect) : (s.eachStream f).replySlot = s.replySlot := by
  simp [State.eachStream]
@[simp] theorem State.eachStream_droppedCommands (s : State) (f : Fin 64 → StreamCtx → StreamCtx × List Effect) : (s.eachStream f).droppedCommands = s.droppedCommands := by
  simp [State.eachStream]
@[simp] theorem State.eachStream_tied (s : State) (f : Fin 64 → StreamCtx → StreamCtx × List Effect) : (s.eachStream f).tied = s.tied := by
  simp [State.eachStream]
@[simp] theorem State.eachStream_freeCount (s : State) (f : Fin 64 → StreamCtx → StreamCtx × List Effect) : (s.eachStream f).freeCount = s.freeCount := by
  simp [State.eachStream]
@[simp] theorem State.eachStream_pending (s : State) (f : Fin 64 → StreamCtx → StreamCtx × List Effect) : (s.eachStream f).pending = s.pending := by
  simp [State.eachStream]
@[simp] theorem State.eachStream_streams (s : State) (f : Fin 64 → StreamCtx → StreamCtx × List Effect) (i : Fin 64) :
    (s.eachStream f).streams[i] = s.streams[i].map fun c => (f i c).1 := by
  simp [State.eachStream, State.emit_streams]

/-! ## `State.drawIf` -/

@[simp] theorem State.drawIf_holding (s : State) (b : Bool) : (s.drawIf b).holding = s.holding := by
  cases b <;> rfl
@[simp] theorem State.drawIf_rate1 (s : State) (b : Bool) : (s.drawIf b).rate1 = s.rate1 := by
  cases b <;> rfl
@[simp] theorem State.drawIf_rate0 (s : State) (b : Bool) : (s.drawIf b).rate0 = s.rate0 := by
  cases b <;> rfl
@[simp] theorem State.drawIf_timer (s : State) (b : Bool) : (s.drawIf b).timer = s.timer := by
  cases b <;> rfl
@[simp] theorem State.drawIf_sched (s : State) (b : Bool) : (s.drawIf b).sched = s.sched := by
  cases b <;> rfl
@[simp] theorem State.drawIf_notices (s : State) (b : Bool) : (s.drawIf b).notices = s.notices := by
  cases b <;> rfl
@[simp] theorem State.drawIf_port (s : State) (b : Bool) : (s.drawIf b).port = s.port := by
  cases b <;> rfl
@[simp] theorem State.drawIf_cal (s : State) (b : Bool) : (s.drawIf b).cal = s.cal := by
  cases b <;> rfl
@[simp] theorem State.drawIf_nodes (s : State) (b : Bool) : (s.drawIf b).nodes = s.nodes := by
  cases b <;> rfl
@[simp] theorem State.drawIf_unclaimed (s : State) (b : Bool) : (s.drawIf b).unclaimed = s.unclaimed := by
  cases b <;> rfl
@[simp] theorem State.drawIf_streams (s : State) (b : Bool) : (s.drawIf b).streams = s.streams := by
  cases b <;> rfl
@[simp] theorem State.drawIf_queue (s : State) (b : Bool) : (s.drawIf b).queue = s.queue := by
  cases b <;> rfl
@[simp] theorem State.drawIf_transmission (s : State) (b : Bool) : (s.drawIf b).transmission = s.transmission := by
  cases b <;> rfl
@[simp] theorem State.drawIf_receiver (s : State) (b : Bool) : (s.drawIf b).receiver = s.receiver := by
  cases b <;> rfl
@[simp] theorem State.drawIf_badFrames (s : State) (b : Bool) : (s.drawIf b).badFrames = s.badFrames := by
  cases b <;> rfl
@[simp] theorem State.drawIf_replySlot (s : State) (b : Bool) : (s.drawIf b).replySlot = s.replySlot := by
  cases b <;> rfl
@[simp] theorem State.drawIf_droppedCommands (s : State) (b : Bool) : (s.drawIf b).droppedCommands = s.droppedCommands := by
  cases b <;> rfl
@[simp] theorem State.drawIf_status (s : State) (b : Bool) : (s.drawIf b).status = s.status := by
  cases b <;> rfl
@[simp] theorem State.drawIf_tied (s : State) (b : Bool) : (s.drawIf b).tied = s.tied := by
  cases b <;> rfl
@[simp] theorem State.drawIf_pending (s : State) (b : Bool) : (s.drawIf b).pending = s.pending := by
  cases b <;> rfl

/-! ## `State.stopIfStopping` -/

@[simp] theorem State.stopIfStopping_holding (s : State) : (s.stopIfStopping).holding = s.holding := by
  unfold State.stopIfStopping; split <;> rfl
@[simp] theorem State.stopIfStopping_rate1 (s : State) : (s.stopIfStopping).rate1 = s.rate1 := by
  unfold State.stopIfStopping; split <;> rfl
@[simp] theorem State.stopIfStopping_rate0 (s : State) : (s.stopIfStopping).rate0 = s.rate0 := by
  unfold State.stopIfStopping; split <;> rfl
@[simp] theorem State.stopIfStopping_sched (s : State) : (s.stopIfStopping).sched = s.sched := by
  unfold State.stopIfStopping; split <;> rfl
@[simp] theorem State.stopIfStopping_notices (s : State) : (s.stopIfStopping).notices = s.notices := by
  unfold State.stopIfStopping; split <;> rfl
@[simp] theorem State.stopIfStopping_port (s : State) : (s.stopIfStopping).port = s.port := by
  unfold State.stopIfStopping; split <;> rfl
@[simp] theorem State.stopIfStopping_cal (s : State) : (s.stopIfStopping).cal = s.cal := by
  unfold State.stopIfStopping; split <;> rfl
@[simp] theorem State.stopIfStopping_nodes (s : State) : (s.stopIfStopping).nodes = s.nodes := by
  unfold State.stopIfStopping; split <;> rfl
@[simp] theorem State.stopIfStopping_unclaimed (s : State) : (s.stopIfStopping).unclaimed = s.unclaimed := by
  unfold State.stopIfStopping; split <;> rfl
@[simp] theorem State.stopIfStopping_streams (s : State) : (s.stopIfStopping).streams = s.streams := by
  unfold State.stopIfStopping; split <;> rfl
@[simp] theorem State.stopIfStopping_transmission (s : State) : (s.stopIfStopping).transmission = s.transmission := by
  unfold State.stopIfStopping; split <;> rfl
@[simp] theorem State.stopIfStopping_receiver (s : State) : (s.stopIfStopping).receiver = s.receiver := by
  unfold State.stopIfStopping; split <;> rfl
@[simp] theorem State.stopIfStopping_badFrames (s : State) : (s.stopIfStopping).badFrames = s.badFrames := by
  unfold State.stopIfStopping; split <;> rfl
@[simp] theorem State.stopIfStopping_replySlot (s : State) : (s.stopIfStopping).replySlot = s.replySlot := by
  unfold State.stopIfStopping; split <;> rfl
@[simp] theorem State.stopIfStopping_droppedCommands (s : State) : (s.stopIfStopping).droppedCommands = s.droppedCommands := by
  unfold State.stopIfStopping; split <;> rfl
@[simp] theorem State.stopIfStopping_status (s : State) : (s.stopIfStopping).status = s.status := by
  unfold State.stopIfStopping; split <;> rfl
@[simp] theorem State.stopIfStopping_tied (s : State) : (s.stopIfStopping).tied = s.tied := by
  unfold State.stopIfStopping; split <;> rfl
@[simp] theorem State.stopIfStopping_freeCount (s : State) : (s.stopIfStopping).freeCount = s.freeCount := by
  unfold State.stopIfStopping; split <;> rfl
@[simp] theorem State.stopIfStopping_pending (s : State) : (s.stopIfStopping).pending = s.pending := by
  unfold State.stopIfStopping; split <;> rfl

/-! ## `State.overrun` -/

@[simp] theorem State.overrun_holding (s : State) (n : Nat) : (s.overrun n).holding = s.holding := by
  unfold State.overrun; split <;> rfl
@[simp] theorem State.overrun_rate1 (s : State) (n : Nat) : (s.overrun n).rate1 = s.rate1 := by
  unfold State.overrun; split <;> rfl
@[simp] theorem State.overrun_rate0 (s : State) (n : Nat) : (s.overrun n).rate0 = s.rate0 := by
  unfold State.overrun; split <;> rfl
@[simp] theorem State.overrun_timer (s : State) (n : Nat) : (s.overrun n).timer = s.timer := by
  unfold State.overrun; split <;> rfl
@[simp] theorem State.overrun_notices (s : State) (n : Nat) : (s.overrun n).notices = s.notices := by
  unfold State.overrun; split <;> rfl
@[simp] theorem State.overrun_port (s : State) (n : Nat) : (s.overrun n).port = s.port := by
  unfold State.overrun; split <;> rfl
@[simp] theorem State.overrun_cal (s : State) (n : Nat) : (s.overrun n).cal = s.cal := by
  unfold State.overrun; split <;> rfl
@[simp] theorem State.overrun_nodes (s : State) (n : Nat) : (s.overrun n).nodes = s.nodes := by
  unfold State.overrun; split <;> rfl
@[simp] theorem State.overrun_unclaimed (s : State) (n : Nat) : (s.overrun n).unclaimed = s.unclaimed := by
  unfold State.overrun; split <;> rfl
@[simp] theorem State.overrun_streams (s : State) (n : Nat) : (s.overrun n).streams = s.streams := by
  unfold State.overrun; split <;> rfl
@[simp] theorem State.overrun_queue (s : State) (n : Nat) : (s.overrun n).queue = s.queue := by
  unfold State.overrun; split <;> rfl
@[simp] theorem State.overrun_transmission (s : State) (n : Nat) : (s.overrun n).transmission = s.transmission := by
  unfold State.overrun; split <;> rfl
@[simp] theorem State.overrun_receiver (s : State) (n : Nat) : (s.overrun n).receiver = s.receiver := by
  unfold State.overrun; split <;> rfl
@[simp] theorem State.overrun_badFrames (s : State) (n : Nat) : (s.overrun n).badFrames = s.badFrames := by
  unfold State.overrun; split <;> rfl
@[simp] theorem State.overrun_replySlot (s : State) (n : Nat) : (s.overrun n).replySlot = s.replySlot := by
  unfold State.overrun; split <;> rfl
@[simp] theorem State.overrun_droppedCommands (s : State) (n : Nat) : (s.overrun n).droppedCommands = s.droppedCommands := by
  unfold State.overrun; split <;> rfl
@[simp] theorem State.overrun_tied (s : State) (n : Nat) : (s.overrun n).tied = s.tied := by
  unfold State.overrun; split <;> rfl
@[simp] theorem State.overrun_freeCount (s : State) (n : Nat) : (s.overrun n).freeCount = s.freeCount := by
  unfold State.overrun; split <;> rfl
@[simp] theorem State.overrun_pending (s : State) (n : Nat) : (s.overrun n).pending = s.pending := by
  unfold State.overrun; split <;> rfl

/-! ## `State.resolve` -/

@[simp] theorem State.resolve_holding (s : State) (i : Fin 32) (p : DownPayload) (o : DeliveryOutcome) (u : Bool) : (s.resolve i p o u).holding = s.holding := by
  simp [State.resolve]
@[simp] theorem State.resolve_rate1 (s : State) (i : Fin 32) (p : DownPayload) (o : DeliveryOutcome) (u : Bool) : (s.resolve i p o u).rate1 = s.rate1 := by
  simp [State.resolve]
@[simp] theorem State.resolve_rate0 (s : State) (i : Fin 32) (p : DownPayload) (o : DeliveryOutcome) (u : Bool) : (s.resolve i p o u).rate0 = s.rate0 := by
  simp [State.resolve]
@[simp] theorem State.resolve_timer (s : State) (i : Fin 32) (p : DownPayload) (o : DeliveryOutcome) (u : Bool) : (s.resolve i p o u).timer = s.timer := by
  simp [State.resolve]
@[simp] theorem State.resolve_sched (s : State) (i : Fin 32) (p : DownPayload) (o : DeliveryOutcome) (u : Bool) : (s.resolve i p o u).sched = s.sched := by
  simp [State.resolve]
@[simp] theorem State.resolve_notices (s : State) (i : Fin 32) (p : DownPayload) (o : DeliveryOutcome) (u : Bool) : (s.resolve i p o u).notices = s.notices := by
  simp [State.resolve]
@[simp] theorem State.resolve_port (s : State) (i : Fin 32) (p : DownPayload) (o : DeliveryOutcome) (u : Bool) : (s.resolve i p o u).port = s.port := by
  simp [State.resolve]
@[simp] theorem State.resolve_cal (s : State) (i : Fin 32) (p : DownPayload) (o : DeliveryOutcome) (u : Bool) : (s.resolve i p o u).cal = s.cal := by
  simp [State.resolve]
@[simp] theorem State.resolve_unclaimed (s : State) (i : Fin 32) (p : DownPayload) (o : DeliveryOutcome) (u : Bool) : (s.resolve i p o u).unclaimed = s.unclaimed := by
  simp [State.resolve]
@[simp] theorem State.resolve_streams (s : State) (i : Fin 32) (p : DownPayload) (o : DeliveryOutcome) (u : Bool) : (s.resolve i p o u).streams = s.streams := by
  simp [State.resolve]
@[simp] theorem State.resolve_transmission (s : State) (i : Fin 32) (p : DownPayload) (o : DeliveryOutcome) (u : Bool) : (s.resolve i p o u).transmission = s.transmission := by
  simp [State.resolve]
@[simp] theorem State.resolve_receiver (s : State) (i : Fin 32) (p : DownPayload) (o : DeliveryOutcome) (u : Bool) : (s.resolve i p o u).receiver = s.receiver := by
  simp [State.resolve]
@[simp] theorem State.resolve_badFrames (s : State) (i : Fin 32) (p : DownPayload) (o : DeliveryOutcome) (u : Bool) : (s.resolve i p o u).badFrames = s.badFrames := by
  simp [State.resolve]
@[simp] theorem State.resolve_replySlot (s : State) (i : Fin 32) (p : DownPayload) (o : DeliveryOutcome) (u : Bool) : (s.resolve i p o u).replySlot = s.replySlot := by
  simp [State.resolve]
@[simp] theorem State.resolve_droppedCommands (s : State) (i : Fin 32) (p : DownPayload) (o : DeliveryOutcome) (u : Bool) : (s.resolve i p o u).droppedCommands = s.droppedCommands := by
  simp [State.resolve]
@[simp] theorem State.resolve_tied (s : State) (i : Fin 32) (p : DownPayload) (o : DeliveryOutcome) (u : Bool) : (s.resolve i p o u).tied = s.tied := by
  simp [State.resolve]
@[simp] theorem State.resolve_freeCount (s : State) (i : Fin 32) (p : DownPayload) (o : DeliveryOutcome) (u : Bool) : (s.resolve i p o u).freeCount = s.freeCount := by
  simp [State.resolve]
@[simp] theorem State.resolve_pending (s : State) (i : Fin 32) (p : DownPayload) (o : DeliveryOutcome) (u : Bool) : (s.resolve i p o u).pending = s.pending := by
  simp [State.resolve]

/-! ## `State.protocolError` -/

@[simp] theorem State.protocolError_holding (s : State) (i : Fin 32) : (s.protocolError i).holding = s.holding := by
  simp [State.protocolError]
@[simp] theorem State.protocolError_rate1 (s : State) (i : Fin 32) : (s.protocolError i).rate1 = s.rate1 := by
  simp [State.protocolError]
@[simp] theorem State.protocolError_rate0 (s : State) (i : Fin 32) : (s.protocolError i).rate0 = s.rate0 := by
  simp [State.protocolError]
@[simp] theorem State.protocolError_timer (s : State) (i : Fin 32) : (s.protocolError i).timer = s.timer := by
  simp [State.protocolError]
@[simp] theorem State.protocolError_sched (s : State) (i : Fin 32) : (s.protocolError i).sched = s.sched := by
  simp [State.protocolError]
@[simp] theorem State.protocolError_notices (s : State) (i : Fin 32) : (s.protocolError i).notices = s.notices := by
  simp [State.protocolError]
@[simp] theorem State.protocolError_port (s : State) (i : Fin 32) : (s.protocolError i).port = s.port := by
  simp [State.protocolError]
@[simp] theorem State.protocolError_cal (s : State) (i : Fin 32) : (s.protocolError i).cal = s.cal := by
  simp [State.protocolError]
@[simp] theorem State.protocolError_unclaimed (s : State) (i : Fin 32) : (s.protocolError i).unclaimed = s.unclaimed := by
  simp [State.protocolError]
@[simp] theorem State.protocolError_streams (s : State) (i : Fin 32) : (s.protocolError i).streams = s.streams := by
  simp [State.protocolError]
@[simp] theorem State.protocolError_queue (s : State) (i : Fin 32) : (s.protocolError i).queue = s.queue := by
  simp [State.protocolError]
@[simp] theorem State.protocolError_transmission (s : State) (i : Fin 32) : (s.protocolError i).transmission = s.transmission := by
  simp [State.protocolError]
@[simp] theorem State.protocolError_receiver (s : State) (i : Fin 32) : (s.protocolError i).receiver = s.receiver := by
  simp [State.protocolError]
@[simp] theorem State.protocolError_badFrames (s : State) (i : Fin 32) : (s.protocolError i).badFrames = s.badFrames := by
  simp [State.protocolError]
@[simp] theorem State.protocolError_replySlot (s : State) (i : Fin 32) : (s.protocolError i).replySlot = s.replySlot := by
  simp [State.protocolError]
@[simp] theorem State.protocolError_droppedCommands (s : State) (i : Fin 32) : (s.protocolError i).droppedCommands = s.droppedCommands := by
  simp [State.protocolError]
@[simp] theorem State.protocolError_tied (s : State) (i : Fin 32) : (s.protocolError i).tied = s.tied := by
  simp [State.protocolError]
@[simp] theorem State.protocolError_freeCount (s : State) (i : Fin 32) : (s.protocolError i).freeCount = s.freeCount := by
  simp [State.protocolError]
@[simp] theorem State.protocolError_pending (s : State) (i : Fin 32) : (s.protocolError i).pending = s.pending := by
  simp [State.protocolError]

/-! ## `State.dispatch` -/

@[simp] theorem State.dispatch_holding (s : State) (i : Fin 32) (b : Block) : (s.dispatch i b).holding = s.holding := by
  unfold State.dispatch; (repeat' split) <;> simp
@[simp] theorem State.dispatch_rate1 (s : State) (i : Fin 32) (b : Block) : (s.dispatch i b).rate1 = s.rate1 := by
  unfold State.dispatch; (repeat' split) <;> simp
@[simp] theorem State.dispatch_rate0 (s : State) (i : Fin 32) (b : Block) : (s.dispatch i b).rate0 = s.rate0 := by
  unfold State.dispatch; (repeat' split) <;> simp
@[simp] theorem State.dispatch_timer (s : State) (i : Fin 32) (b : Block) : (s.dispatch i b).timer = s.timer := by
  unfold State.dispatch; (repeat' split) <;> simp
@[simp] theorem State.dispatch_sched (s : State) (i : Fin 32) (b : Block) : (s.dispatch i b).sched = s.sched := by
  unfold State.dispatch; (repeat' split) <;> simp
@[simp] theorem State.dispatch_notices (s : State) (i : Fin 32) (b : Block) : (s.dispatch i b).notices = s.notices := by
  unfold State.dispatch; (repeat' split) <;> simp
@[simp] theorem State.dispatch_port (s : State) (i : Fin 32) (b : Block) : (s.dispatch i b).port = s.port := by
  unfold State.dispatch; (repeat' split) <;> simp
@[simp] theorem State.dispatch_cal (s : State) (i : Fin 32) (b : Block) : (s.dispatch i b).cal = s.cal := by
  unfold State.dispatch; (repeat' split) <;> simp
@[simp] theorem State.dispatch_nodes (s : State) (i : Fin 32) (b : Block) : (s.dispatch i b).nodes = s.nodes := by
  unfold State.dispatch; (repeat' split) <;> simp
@[simp] theorem State.dispatch_transmission (s : State) (i : Fin 32) (b : Block) : (s.dispatch i b).transmission = s.transmission := by
  unfold State.dispatch; (repeat' split) <;> simp
@[simp] theorem State.dispatch_receiver (s : State) (i : Fin 32) (b : Block) : (s.dispatch i b).receiver = s.receiver := by
  unfold State.dispatch; (repeat' split) <;> simp
@[simp] theorem State.dispatch_badFrames (s : State) (i : Fin 32) (b : Block) : (s.dispatch i b).badFrames = s.badFrames := by
  unfold State.dispatch; (repeat' split) <;> simp
@[simp] theorem State.dispatch_replySlot (s : State) (i : Fin 32) (b : Block) : (s.dispatch i b).replySlot = s.replySlot := by
  unfold State.dispatch; (repeat' split) <;> simp
@[simp] theorem State.dispatch_droppedCommands (s : State) (i : Fin 32) (b : Block) : (s.dispatch i b).droppedCommands = s.droppedCommands := by
  unfold State.dispatch; (repeat' split) <;> simp
@[simp] theorem State.dispatch_tied (s : State) (i : Fin 32) (b : Block) : (s.dispatch i b).tied = s.tied := by
  unfold State.dispatch; (repeat' split) <;> simp
@[simp] theorem State.dispatch_freeCount (s : State) (i : Fin 32) (b : Block) : (s.dispatch i b).freeCount = s.freeCount := by
  unfold State.dispatch; (repeat' split) <;> simp
@[simp] theorem State.dispatch_pending (s : State) (i : Fin 32) (b : Block) : (s.dispatch i b).pending = s.pending := by
  unfold State.dispatch; (repeat' split) <;> simp

end Sys2Proof.Machine
end

