-- ==== Sys2Proof/Laws/Shells.lean ====
section
/-! SUPPORT. One lemma for each shell of a step: what an event and a host command answer, by the state they meet. -/

namespace Sys2Proof.Machine

/-- Out of reset a step has its effect. -/
theorem outsideReset_of_live {s : State} (h : s.live) (f : State → State) : outsideReset s f = .next (f s) := by
  simp [outsideReset, h]

/-- While master reset holds the part a step has no effect (R177). -/
theorem outsideReset_of_held {s : State} (h : s.holding ≠ none) (f : State → State) : outsideReset s f = .next s := by
  simp [outsideReset, Option.isSome_iff_ne_none.2 h]

/-- Out of reset an event has its effect, and the frames that began to wait together are noted. -/
theorem event_of_live {s : State} (h : s.live) (f : State → State) : event s f = .next (s.settle (f s)) :=
  outsideReset_of_live h _

/-- While master reset holds the part an event has no effect (R177). -/
theorem event_of_held {s : State} (h : s.holding ≠ none) (f : State → State) : event s f = .next s :=
  outsideReset_of_held h _

/-- An event always answers a next state. -/
theorem event_next (s : State) (f : State → State) : ∃ t, event s f = .next t := ⟨_, rfl⟩

/-- A frame taken by the Command Unit: its rule answers and the reply is placed (R168, R169). -/
theorem State.take_of_empty {s : State} (h : s.replySlot = none) (opcode : Byte) (ref : Word16) (body : State → Answer) :
    s.take opcode ref body = ((body s).since.getD s).settle ((body s).place opcode ref) := by
  simp [State.take, h]

/-- A frame dropped by the Command Unit (R168). -/
theorem State.take_of_full {s : State} (h : s.replySlot ≠ none) (opcode : Byte) (ref : Word16) (body : State → Answer) :
    s.take opcode ref body = s.settle s.dropCommand := by
  simp [State.take, Option.isSome_iff_ne_none.2 h]

/-- A host command that is taken (R168, R169). -/
theorem command_of_accepts {s : State} (h : s.accepts) (opcode : Byte) (ref : Word16) (body : State → Answer) :
    command opcode ref body s = .next (((body s).since.getD s).settle ((body s).place opcode ref)) := by
  simp [command, outsideReset_of_live h.1, State.take_of_empty h.2]

/-- A host command that is taken with no other event before its own. -/
theorem command_of_accepts_alone {s : State} (h : s.accepts) (opcode : Byte) (ref : Word16) {body : State → Answer}
    (alone : (body s).since = none) :
    command opcode ref body s = .next (s.settle ((body s).place opcode ref)) := by
  rw [command_of_accepts h, alone]
  rfl

/-- A host command that is dropped (R168). -/
theorem command_of_full {s : State} (h : s.live) (full : s.replySlot ≠ none) (opcode : Byte) (ref : Word16)
    (body : State → Answer) : command opcode ref body s = .next (s.settle s.dropCommand) := by
  simp [command, outsideReset_of_live h, State.take_of_full full]

/-- A refused command leaves everything but the Reply Slot (R169). -/
theorem refuse_place (s : State) (st : Status) (opcode : Byte) (ref : Word16) :
    (refuse s st).place opcode ref = s.replied opcode ref st [] := rfl

end Sys2Proof.Machine
end

