-- ==== Sys2Proof/Laws/Nodes.lean ====
section
/-! SUPPORT. The spec lemmas of the node table and the streams: what one entry or one context reads as after an update. -/

namespace Sys2Proof.Machine

/-- The entry that was changed. -/
theorem State.modifyNode_get_self (s : State) (i : Fin 32) (f : NodeEntry → NodeEntry) :
    (s.modifyNode i f).nodes[i] = s.nodes[i].map f := by
  simp [State.modifyNode]

/-- Every other entry. -/
theorem State.modifyNode_get_ne (s : State) {i j : Fin 32} (h : i ≠ j) (f : NodeEntry → NodeEntry) :
    (s.modifyNode i f).nodes[j] = s.nodes[j] := by
  have : (i : Nat) ≠ j := fun e => h (Fin.ext e)
  simp [State.modifyNode, this]

/-- The in-use standing of every entry is kept. -/
theorem State.modifyNode_isSome (s : State) (i j : Fin 32) (f : NodeEntry → NodeEntry) :
    (s.modifyNode i f).nodes[j].isSome = s.nodes[j].isSome := by
  by_cases h : i = j
  · subst h; rw [State.modifyNode_get_self]; simp
  · rw [State.modifyNode_get_ne s h]

/-- The context that was replaced. -/
theorem State.setStream_get_self (s : State) (i : Fin 64) (c : Option StreamCtx) :
    (s.setStream i c).streams[i] = c := by
  simp [State.setStream]

/-- Every other context. -/
theorem State.setStream_get_ne (s : State) {i j : Fin 64} (h : i ≠ j) (c : Option StreamCtx) :
    (s.setStream i c).streams[j] = s.streams[j] := by
  have : (i : Nat) ≠ j := fun e => h (Fin.ext e)
  simp [State.setStream, this]

/-- Every stream changed: its context replaced by the changed one, and the effects taken in ascending stream number. -/
theorem State.eachStream_eq (s : State) (change : Fin 64 → StreamCtx → StreamCtx × List Effect)
    (streams : Vector (Option StreamCtx) 64) (effects : Fin 64 → List Effect)
    (context : ∀ i : Fin 64, streams[i] = s.streams[i].map fun c => (change i c).1)
    (unused : ∀ i : Fin 64, s.streams[i] = none → effects i = [])
    (used : ∀ (i : Fin 64) (c : StreamCtx), s.streams[i] = some c → effects i = (change i c).2) :
    s.eachStream change = { s with streams := streams }.emit ((List.finRange 64).flatMap effects) := by
  have contexts : (Vector.ofFn fun i : Fin 64 => s.streams[i].map fun c => (change i c).1) = streams := by
    apply Vector.ext
    intro i lt
    rw [Vector.getElem_ofFn]
    exact (context ⟨i, lt⟩).symm
  rw [State.eachStream, contexts]
  congr 2
  funext i
  cases h : s.streams[i] with
  | none => exact (unused i h).symm
  | some c => exact (used i c h).symm

/-- A stream bound to a pair holds it (R66). -/
theorem State.bound_holds {s : State} {node : Fin 32} {tag : Fin 8} {i : Fin 64} (h : s.bound node tag = some i) :
    ∃ c, s.streams[i] = some c ∧ c.config.node = node ∧ c.config.tag = tag := by
  unfold State.bound at h
  have found := List.find?_some h
  split at found
  · exact ⟨_, ‹_›, by simpa using found⟩
  · cases found

/-- A pair is bound to none exactly when no stream holds it (R66). -/
theorem State.bound_eq_none {s : State} {node : Fin 32} {tag : Fin 8} :
    s.bound node tag = none ↔
      ∀ (i : Fin 64) (c : StreamCtx), s.streams[i] = some c → ¬ (c.config.node = node ∧ c.config.tag = tag) := by
  unfold State.bound
  rw [List.find?_eq_none]
  constructor
  · intro h i c stream holds
    have at_i := h i (List.mem_finRange i)
    simp [stream, holds] at at_i
  · intro h i _ holds
    split at holds
    · exact h i _ ‹_› (by simpa using holds)
    · cases holds

end Sys2Proof.Machine
end

