-- ==== Sys2Proof/Laws/Exchanges.lean ====
section
/-! SUPPORT. What an exchange's outcome can touch: the node table, the Unclaimed counters, the streams, the uplink queue and
the flags, and nothing else. One lemma per shared operation of the Link Supervisor and of the block dispatch. -/

namespace Sys2Proof.Machine

/-- The state without its node table, Unclaimed counters, streams, uplink queue and Status and Alert Unit. -/
def State.rest (s : State) : State :=
  { s with
    nodes := State.reset.nodes
    unclaimed := State.reset.unclaimed
    streams := State.reset.streams
    queue := State.reset.queue
    status := State.reset.status }

/-- What two states with the same rest agree on. -/
theorem State.rest_eq {s t : State} (h : s.rest = t.rest) :
    s.holding = t.holding ∧ s.timer = t.timer ∧ s.sched = t.sched ∧ s.notices = t.notices ∧ s.port = t.port ∧
      s.cal = t.cal ∧ s.transmission = t.transmission ∧ s.receiver = t.receiver ∧ s.badFrames = t.badFrames ∧
      s.replySlot = t.replySlot ∧ s.droppedCommands = t.droppedCommands ∧ s.tied = t.tied ∧
      s.freeCount = t.freeCount ∧ s.pending = t.pending := by
  simp only [State.rest, State.mk.injEq] at h
  tauto

/-- Noting what began to wait together changes nothing but the note. -/
theorem State.settle_rest (s t : State) : (s.settle t).rest = { t.rest with tied := (s.settle t).tied } := by
  rw [State.settle_spec s t]
  rfl

@[simp] theorem State.raise_rest (s : State) (f : Flag) : (s.raise f).rest = s.rest := rfl

@[simp] theorem State.addEntry_rest (s : State) (e : Entry) : (s.addEntry e).rest = s.rest := by
  unfold State.addEntry
  split <;> rfl

@[simp] theorem State.effect_rest (s : State) (f : Effect) : (s.effect f).rest = s.rest := by
  cases f <;> simp [State.effect]

@[simp] theorem State.emit_rest (s : State) (fs : List Effect) : (s.emit fs).rest = s.rest := by
  unfold State.emit
  induction fs generalizing s with
  | nil => rfl
  | cons f fs ih => rw [List.foldl_cons, ih, State.effect_rest]

@[simp] theorem State.modifyNode_rest (s : State) (i : Fin 32) (f : NodeEntry → NodeEntry) :
    (s.modifyNode i f).rest = s.rest := rfl

@[simp] theorem State.setUnclaimed_rest (s : State) (i : Fin 32) (n : Word16) : (s.setUnclaimed i n).rest = s.rest := rfl

@[simp] theorem State.setStream_rest (s : State) (i : Fin 64) (c : Option StreamCtx) : (s.setStream i c).rest = s.rest :=
  rfl

@[simp] theorem State.eachStream_rest (s : State) (f : Fin 64 → StreamCtx → StreamCtx × List Effect) :
    (s.eachStream f).rest = s.rest := by
  unfold State.eachStream
  rw [State.emit_rest]
  simp only [State.rest]

@[simp] theorem State.protocolError_rest (s : State) (i : Fin 32) : (s.protocolError i).rest = s.rest := rfl

@[simp] theorem State.resolve_rest (s : State) (i : Fin 32) (p : DownPayload) (o : DeliveryOutcome) (u : Bool) :
    (s.resolve i p o u).rest = s.rest := by simp [State.resolve]

@[simp] theorem State.stageLiveness_rest (s : State) (i : Fin 32) (before : NodeState) (f : Bool) :
    (s.stageLiveness i before f).rest = s.rest := by
  unfold State.stageLiveness
  dsimp only
  split <;> simp [State.resumeStreams]

@[simp] theorem State.stageRestart_rest (s : State) (i : Fin 32) (before : NodeState) (f : Bool) :
    (s.stageRestart i before f).rest = s.rest := by
  unfold State.stageRestart
  dsimp only
  split
  · split <;> simp [State.restartStreams]
  · rfl

@[simp] theorem State.evaluateA_rest (s : State) (i : Fin 32) (e : NodeEntry) (kind : ReplyKind) (a : Bool) :
    (s.evaluateA i e kind a).rest = s.rest := by
  unfold State.evaluateA State.notTaken
  split <;> split_ifs <;> simp

@[simp] theorem State.stageA_rest (s : State) (i : Fin 32) (kind : ReplyKind) (a carried : Bool) :
    (s.stageA i kind a carried).rest = s.rest := by
  unfold State.stageA
  dsimp only
  split <;> simp

@[simp] theorem State.dispatch_rest (s : State) (i : Fin 32) (b : Block) : (s.dispatch i b).rest = s.rest := by
  unfold State.dispatch
  split
  · simp
  · split
    · rfl
    · split_ifs <;> simp

@[simp] theorem State.sequenceCheck_rest (s : State) (i : Fin 32) (sBit : Bool) (blocks : List Block) :
    (s.sequenceCheck i sBit blocks).rest = s.rest := by
  have all : ∀ (bs : List Block) (t : State), (bs.foldl (fun s b => s.dispatch i b) t).rest = t.rest := by
    intro bs
    induction bs with
    | nil => exact fun _ => rfl
    | cons b bs ih => exact fun t => by rw [List.foldl_cons, ih, State.dispatch_rest]
  unfold State.sequenceCheck
  split
  · rfl
  · split <;> simp [all]

@[simp] theorem State.stageData_rest (s : State) (i : Fin 32) (g sBit : Bool) (payload : List Byte) :
    (s.stageData i g sBit payload).rest = s.rest := by
  unfold State.stageData
  split <;> dsimp only <;> split <;> simp

/-- A valid reply touches no other part of the machine. -/
@[simp] theorem State.validReply_rest (s : State) (x : Exchange) (r : NodeReply) : (s.validReply x r).rest = s.rest := by
  unfold State.validReply
  split
  · rfl
  · dsimp only
    split <;> simp

@[simp] theorem State.goDown_rest (s : State) (i : Fin 32) (e : NodeEntry) : (s.goDown i e).rest = s.rest := by
  unfold State.goDown
  dsimp only
  split <;> simp [State.suspendStreams]

/-- A failed exchange touches no other part of the machine. -/
@[simp] theorem State.failedExchange_rest (s : State) (x : Exchange) (how : Failure) :
    (s.failedExchange x how).rest = s.rest := by
  unfold State.failedExchange State.failedAttempt
  split
  · rfl
  · dsimp only
    split_ifs <;> (try split) <;> (try split_ifs) <;> simp

end Sys2Proof.Machine
end

