-- ==== Sys2Proof/Laws/Notices.lean ====
section
/-! SUPPORT. The reactions to a cycle boundary (R27): what one can touch, and what taking all of them leaves. -/

namespace Sys2Proof.Machine

/-- The Stream Engine's reaction takes its oldest boundary, and touches only the streams, the queue and the flags besides
(R124). -/
theorem State.streamEngineBoundary_rest (s : State) :
    s.streamEngineBoundary.rest =
      { s.rest with notices := { s.notices with streamEngine := s.notices.streamEngine.tail } } := by
  unfold State.streamEngineBoundary
  split
  · rename_i h
    rw [State.eachStream_rest]
    simp [State.rest, h]
  · rename_i h
    have same : s.notices = { s.notices with streamEngine := s.notices.streamEngine.tail } := by
      rw [h, List.tail_nil, ← h]
    rw [← same]
    rfl

/-- The Report Assembler's reaction takes one boundary, and touches only the queue besides (R137). -/
theorem State.assemblerBoundary_rest (s : State) :
    s.assemblerBoundary.rest = { s.rest with notices := { s.notices with assembler := s.notices.assembler - 1 } } := by
  unfold State.assemblerBoundary
  split
  · rename_i h
    simp [State.rest, h]
  · rename_i h
    have same : s.notices = { s.notices with assembler := s.notices.assembler - 1 } := by
      rw [h, Nat.zero_sub, ← h]
    rw [← same]
    rfl

/-- With nothing for the Stream Engine the reaction is the Report Assembler's. -/
theorem State.takeNotice_assembler {s : State} (h : s.notices.streamEngine = []) :
    s.takeNotice = s.settle s.assemblerBoundary := by
  simp only [State.takeNotice, h]

/-- With nothing for the Report Assembler the reaction is the Stream Engine's. -/
theorem State.takeNotice_streamEngine {s : State} (h : s.notices.streamEngine ≠ []) (k : s.notices.assembler = 0) :
    s.takeNotice = s.settle s.streamEngineBoundary := by
  unfold State.takeNotice
  split <;> simp_all

/-- With both to come a free value is drawn, and the reaction is either (log entry 18). -/
theorem State.takeNotice_both {s drawn : State} (h : s.notices.streamEngine ≠ []) (k : s.notices.assembler ≠ 0)
    (d : drawn = { s with freeCount := s.freeCount + 1 }) :
    s.takeNotice = drawn.settle drawn.streamEngineBoundary ∨ s.takeNotice = drawn.settle drawn.assemblerBoundary := by
  subst d
  unfold State.takeNotice
  split
  · contradiction
  · contradiction
  · dsimp only
    split
    · exact .inl rfl
    · exact .inr rfl

/-- One reaction: the Stream Engine's, or the Report Assembler's, and a free value drawn when both wait. -/
theorem State.takeNotice_rest (s : State) : ∃ n tied,
    (s.notices.streamEngine ≠ [] ∧ s.takeNotice.rest =
      { s.rest with freeCount := n, tied := tied, notices := { s.notices with
          streamEngine := s.notices.streamEngine.tail } }) ∨
    (s.notices.assembler ≠ 0 ∨ s.notices.streamEngine = []) ∧ s.takeNotice.rest =
      { s.rest with freeCount := n, tied := tied, notices := { s.notices with assembler := s.notices.assembler - 1 } } := by
  by_cases h : s.notices.streamEngine = []
  · refine ⟨s.freeCount, s.takeNotice.tied, .inr ⟨.inr h, ?_⟩⟩
    rw [State.takeNotice_assembler h, State.settle_rest, State.assemblerBoundary_rest]
    rfl
  · by_cases k : s.notices.assembler = 0
    · refine ⟨s.freeCount, s.takeNotice.tied, .inl ⟨h, ?_⟩⟩
      rw [State.takeNotice_streamEngine h k, State.settle_rest, State.streamEngineBoundary_rest]
      rfl
    · rcases State.takeNotice_both h k rfl with eq | eq
      · refine ⟨s.freeCount + 1, s.takeNotice.tied, .inl ⟨h, ?_⟩⟩
        rw [eq, State.settle_rest, State.streamEngineBoundary_rest]
        rfl
      · refine ⟨s.freeCount + 1, s.takeNotice.tied, .inr ⟨.inl k, ?_⟩⟩
        rw [eq, State.settle_rest, State.assemblerBoundary_rest]
        rfl

/-- Enough reactions leave none to come, and touch only the streams, the queue and the flags besides. -/
theorem State.reactions_rest (n : Nat) (s : State)
    (h : s.notices.streamEngine.length + s.notices.assembler ≤ n) :
    ∃ k tied, (s.reactions n).rest =
      { s.rest with freeCount := k, tied := tied, notices := { streamEngine := [], assembler := 0 } } := by
  induction n generalizing s with
  | zero =>
    obtain ⟨a, b⟩ : s.notices.streamEngine = [] ∧ s.notices.assembler = 0 := by
      constructor
      · exact List.eq_nil_of_length_eq_zero (by omega)
      · omega
    refine ⟨s.freeCount, s.tied, ?_⟩
    simp [State.reactions, State.rest, ← a, ← b]
  | succ n ih =>
    obtain ⟨k, tied, ⟨some, eq⟩ | ⟨some, eq⟩⟩ := s.takeNotice_rest
    · have notices := congrArg State.notices eq
      change s.takeNotice.notices = _ at notices
      obtain ⟨m, tied', done⟩ := ih s.takeNotice (by
        rw [notices]
        have := List.length_pos_iff.2 some
        simp
        omega)
      exact ⟨m, tied', by rw [State.reactions, done, eq]⟩
    · have notices := congrArg State.notices eq
      change s.takeNotice.notices = _ at notices
      obtain ⟨m, tied', done⟩ := ih s.takeNotice (by
        rw [notices]
        rcases some with some | some
        · simp; omega
        · simp [some] at h ⊢; omega)
      exact ⟨m, tied', by rw [State.reactions, done, eq]⟩

/-- All reactions taken: none is still to come, and only the streams, the queue and the flags are touched besides (R45). -/
theorem State.takeNotices_rest (s : State) :
    ∃ k tied, s.takeNotices.rest =
      { s.rest with freeCount := k, tied := tied, notices := { streamEngine := [], assembler := 0 } } :=
  State.reactions_rest _ s (Nat.le_refl _)

/-- No reaction is then still to come. -/
@[simp] theorem State.takeNotices_notices (s : State) : s.takeNotices.notices = { streamEngine := [], assembler := 0 } := by
  obtain ⟨k, tied, h⟩ := s.takeNotices_rest
  exact (congrArg (fun t : State => t.notices) h :)

/-- What the reactions to a boundary keep. -/
theorem State.takeNotices_kept (s : State) :
    s.takeNotices.holding = s.holding ∧ s.takeNotices.timer = s.timer ∧ s.takeNotices.sched = s.sched ∧
      s.takeNotices.port = s.port ∧ s.takeNotices.cal = s.cal ∧ s.takeNotices.transmission = s.transmission ∧
      s.takeNotices.receiver = s.receiver ∧ s.takeNotices.replySlot = s.replySlot ∧
      s.takeNotices.pending = s.pending := by
  obtain ⟨k, tied, h⟩ := s.takeNotices_rest
  simp only [State.rest, State.mk.injEq] at h
  tauto

/-- With none to come nothing changes. -/
theorem State.takeNotices_none {s : State} (h : s.notices = { streamEngine := [], assembler := 0 }) : s.takeNotices = s := by
  simp [State.takeNotices, h, State.reactions]

/-- With some to come, one is taken and then the others. -/
theorem State.takeNotices_step {s : State} (h : s.notices.streamEngine ≠ [] ∨ s.notices.assembler ≠ 0) :
    s.takeNotices = s.takeNotice.takeNotices := by
  have count : s.notices.streamEngine.length + s.notices.assembler =
      s.takeNotice.notices.streamEngine.length + s.takeNotice.notices.assembler + 1 := by
    obtain ⟨k, tied, ⟨some, eq⟩ | ⟨some, eq⟩⟩ := s.takeNotice_rest
    · have notices := congrArg State.notices eq
      change s.takeNotice.notices = _ at notices
      rw [notices]
      have := List.length_pos_iff.2 some
      simp
      omega
    · have notices := congrArg State.notices eq
      change s.takeNotice.notices = _ at notices
      rw [notices]
      have : s.notices.assembler ≠ 0 := some.elim id fun none => h.resolve_left (not_not.2 none)
      simp
      omega
  rw [State.takeNotices, count, State.reactions, State.takeNotices]

end Sys2Proof.Machine
end

