-- ==== Sys2Proof/Laws/Queue.lean ====
section
/-! SUPPORT. The spec lemmas of the uplink queue and of the flags: everything an addition, a close, an evaluation and a raise
can do, each said once. -/

namespace Sys2Proof.Machine

/-- The evaluation sets or clears the Throttled mark and changes nothing else (R139). -/
theorem UplinkQueue.evaluate_spec (q : UplinkQueue) : ∃ b, q.evaluate = { q with throttled := b } := by
  unfold UplinkQueue.evaluate
  split
  · exact ⟨true, rfl⟩
  · split
    · exact ⟨false, rfl⟩
    · exact ⟨q.throttled, rfl⟩

@[simp] theorem UplinkQueue.evaluate_frames (q : UplinkQueue) : q.evaluate.frames = q.frames := by
  obtain ⟨b, h⟩ := q.evaluate_spec; simp [h, UplinkQueue.frames]

@[simp] theorem UplinkQueue.evaluate_occupancy (q : UplinkQueue) : q.evaluate.occupancy = q.occupancy := by
  simp [UplinkQueue.occupancy]

/-- A close changes no frame's entries, so it keeps the occupancy (R136). -/
@[simp] theorem UplinkQueue.close_occupancy (q : UplinkQueue) (m : CloseFlags → CloseFlags) :
    (q.close m).occupancy = q.occupancy := by
  unfold UplinkQueue.close
  cases h : q.openFrame <;> simp [UplinkQueue.occupancy, UplinkQueue.frames, h, ReportFrame.size]

/-- The body length of a frame with one more entry. -/
@[simp] theorem ReportFrame.add_size (f : ReportFrame) (e : Entry) : (f.add e).size = f.size + e.size := by
  simp [ReportFrame.add, ReportFrame.size]; omega

/-- The close flags count nothing. -/
@[simp] theorem ReportFrame.closedBy_size (f : ReportFrame) (e : Entry) : (f.closedBy e).size = f.size := rfl

/-- A frame placed at the tail adds its body length to the closed frames' (R132). -/
theorem UplinkQueue.place_occupancy (q : UplinkQueue) (f : ReportFrame) (e : Entry) :
    (q.place f e).occupancy = (q.closed.map ReportFrame.size).sum + f.size := by
  unfold UplinkQueue.place
  split <;> simp [UplinkQueue.occupancy, UplinkQueue.frames]

/-- An addition only changes the queue's own fields: it keeps the marks (R133). -/
theorem UplinkQueue.add_marks (q : UplinkQueue) (cycle : Word16) (e : Entry) :
    (q.add cycle e).1.highMark = q.highMark ∧ (q.add cycle e).1.lowMark = q.lowMark := by
  unfold UplinkQueue.add
  split
  · obtain ⟨b, h⟩ := (q.place _ e).evaluate_spec
    rw [h]; unfold UplinkQueue.place; split <;> simp
  · split
    · obtain ⟨b, h⟩ := (({ q with closed := q.frames, openFrame := none, droppedSinceOpen := 0 } : UplinkQueue).place
        (q.newFrame cycle e) e).evaluate_spec
      rw [h]; unfold UplinkQueue.place; split <;> simp
    · obtain ⟨b, h⟩ := ({ q with droppedSinceOpen := bump q.droppedSinceOpen, lost := q.lost.count e } :
        UplinkQueue).evaluate_spec
      rw [h]; simp

/-- A raise sets its flag and no other (R170). -/
theorem StatusUnit.raise_flags (u : StatusUnit) (f : Flag) (cycle : Word16) :
    (u.raise f cycle).flags = u.flags ||| f.set := by
  unfold StatusUnit.raise StatusUnit.alertTest
  split <;> rfl

/-- A raise keeps the mask, the reset cause and the FLUSH count (R170). -/
theorem StatusUnit.raise_kept (u : StatusUnit) (f : Flag) (cycle : Word16) :
    (u.raise f cycle).mask = u.mask ∧ (u.raise f cycle).resetCause = u.resetCause ∧
      (u.raise f cycle).flushCount = u.flushCount := by
  unfold StatusUnit.raise StatusUnit.alertTest
  split <;> exact ⟨rfl, rfl, rfl⟩

/-- A flag raised again in the same cycle number changes nothing more (R170). -/
theorem StatusUnit.raise_again (u : StatusUnit) (f : Flag) (cycle : Word16) :
    (u.raise f cycle).raise f cycle = u.raise f cycle := by
  rcases u with ⟨flags, mask, armed, slot, alertN, cause, count⟩
  have set : flags ||| f.set ||| f.set = flags ||| f.set := by rw [BitVec.or_assoc, BitVec.or_self]
  simp only [StatusUnit.raise, StatusUnit.drive, StatusUnit.masked, StatusUnit.alertTest]
  cases armed
  · simp [set]
  · by_cases masked : (flags ||| f.set) &&& mask = 0#10 <;> simp [set, masked]

/-- After an alert test an armed alert has no set flag masked (R172). -/
theorem StatusUnit.alertTest_armed (u : StatusUnit) (cycle : Word16) (h : (u.alertTest cycle).armed = true) :
    (u.alertTest cycle).masked = false := by
  unfold StatusUnit.alertTest at h ⊢
  split
  · rename_i hc; simp [hc] at h
  · rename_i hc; simp only [hc] at h; simp_all

end Sys2Proof.Machine
end

