-- ==== Sys2Proof/Laws/Receiver.lean ====
section
/-! SUPPORT. The spec lemmas of the trunk link: multi-byte fields read back, and what the receiver makes of a whole frame. -/

namespace Sys2Proof.Machine

/-- The bit at `i` of two bytes read as one field. -/
theorem word16_getLsbD (hi lo : Byte) (i : Nat) :
    (word16 hi lo).getLsbD i = if i < 8 then lo.getLsbD i else hi.getLsbD (i - 8) := by
  show (hi ++ lo : BitVec (8 + 8)).getLsbD i = _
  rw [BitVec.getLsbD_append]

/-- The two bytes of a field read as that field. -/
theorem word16_bytes (w : Word16) : word16 (w.extractLsb' 8 8) (w.extractLsb' 0 8) = w := by
  apply BitVec.eq_of_getLsbD_eq
  intro i hi
  rw [word16_getLsbD]
  by_cases h : i < 8
  · simp [h]
  · simp [h, show i - 8 < 8 by omega, show 8 + (i - 8) = i by omega]

/-- A field of two bytes spelled again gives these bytes. -/
theorem be16_word16 (hi lo : Byte) : be16 (word16 hi lo) = [hi, lo] := by
  have high : (word16 hi lo).extractLsb' 8 8 = hi := by
    apply BitVec.eq_of_getLsbD_eq
    intro i h
    simp [word16_getLsbD, h]
  have low : (word16 hi lo).extractLsb' 0 8 = lo := by
    apply BitVec.eq_of_getLsbD_eq
    intro i h
    simp [word16_getLsbD, h]
  simp [be16, high, low]

/-- The four bytes of a field read as that field. -/
theorem word32_bytes (w : Word32) :
    word32 ((w.extractLsb' 16 16).extractLsb' 8 8) ((w.extractLsb' 16 16).extractLsb' 0 8)
      ((w.extractLsb' 0 16).extractLsb' 8 8) ((w.extractLsb' 0 16).extractLsb' 0 8) = w := by
  rw [word32, word16_bytes, word16_bytes]
  show (w.extractLsb' 16 16 ++ w.extractLsb' 0 16 : BitVec (16 + 16)) = w
  apply BitVec.eq_of_getLsbD_eq
  intro i hi
  rw [BitVec.getLsbD_append]
  by_cases h : i < 16
  · simp [h]
  · simp [h, show i - 16 < 16 by omega, show 16 + (i - 16) = i by omega]

/-- Bytes that arrive in two parts. -/
theorem State.receiveBytes_append (s : State) (a b : List Byte) :
    s.receiveBytes (a ++ b) = (s.receiveBytes a).receiveBytes b := by
  simp [State.receiveBytes]

/-- The bytes that complete the content of a frame (R165). -/
theorem State.receiveBytes_content (s : State) (n : Word16) (got rest : List Byte) (h : s.receiver = .content n got)
    (len : got.length + rest.length = n.toNat) (some : rest ≠ []) :
    s.receiveBytes rest = { s with receiver := .check n (got ++ rest) [] } := by
  induction rest generalizing s got with
  | nil => simp at some
  | cons b rest ih =>
    simp only [State.receiveBytes, List.foldl_cons] at ih ⊢
    by_cases last : rest = []
    · subst last
      have full : ¬ got.length + 1 < n.toNat := by simp at len; omega
      simp [State.receiveByte, h, full]
    · have more : (got ++ [b]).length < n.toNat := by
        have := List.length_pos_iff.2 last
        simp at len ⊢
        omega
      rw [ih (got := got ++ [b]) _ (by simp only [State.receiveByte, h, more, if_true]) (by simp at len ⊢; omega) last]
      simp [State.receiveByte, h]

/-- A frame of at most 512 body bytes from HUNT on: it is handed on when its CRC agrees, and is otherwise a bad frame
(R165, R166). -/
theorem State.receiveBytes_frame (s : State) (h : s.receiver = .hunt) (type c1 c0 : Byte) (body : List Byte)
    (len : body.length ≤ 512) :
    s.receiveBytes (Config.sync :: nat16 (1 + body.length) ++ type :: body ++ [c1, c0]) =
      if word16 c1 c0 = crc16 (nat16 (1 + body.length) ++ type :: body) then s.handOn (type :: body)
      else s.badFrame := by
  have length : (BitVec.ofNat 16 (1 + body.length)).toNat = 1 + body.length := by simp; omega
  have good : lengthBad (BitVec.ofNat 16 (1 + body.length)) = false := by
    simp only [lengthBad, length, Config.trunkLength]
    simp
    omega
  have started : s.receiveBytes (Config.sync :: nat16 (1 + body.length)) =
      { s with receiver := .content (BitVec.ofNat 16 (1 + body.length)) [] } := by
    simp only [State.receiveBytes, nat16, be16, List.foldl_cons, List.foldl_nil, State.receiveByte, h, huntByte, if_true,
      lengthByte, word16_bytes, good, Bool.false_eq_true, if_false]
  have same : ({ s with receiver := .hunt } : State) = s := by rw [← h]
  rw [State.receiveBytes_append, State.receiveBytes_append, started,
    State.receiveBytes_content _ (BitVec.ofNat 16 (1 + body.length)) [] (type :: body) rfl (by simp [length]; omega)
      (by simp)]
  simp only [State.receiveBytes, List.foldl_cons, List.foldl_nil, State.receiveByte, State.checkFrame, List.nil_append]
  by_cases agrees : word16 c1 c0 = crc16 (nat16 (1 + body.length) ++ type :: body)
  · rw [if_pos agrees, if_pos (by rw [← be16_word16 c1 c0, agrees, nat16]), same]
  · rw [if_neg agrees, if_neg]
    · rfl
    · intro eq
      rw [← be16_word16 c1 c0] at eq
      refine agrees ?_
      have := congrArg (fun l => l.head?.getD 0) eq
      have := congrArg (fun l => (l.drop 1).head?.getD 0) eq
      rw [← word16_bytes (word16 c1 c0), ← word16_bytes (crc16 _)]
      simp_all [be16, nat16]

/-- A trunk frame as its sender forms it is handed on (R165). -/
theorem State.receiveBytes_trunkFrame (s : State) (h : s.receiver = .hunt) (type : Byte) (body : List Byte)
    (len : body.length ≤ 512) : s.receiveBytes (trunkFrame type body) = s.handOn (type :: body) := by
  have := s.receiveBytes_frame h type ((crc16 (nat16 (1 + body.length) ++ type :: body)).extractLsb' 8 8)
    ((crc16 (nat16 (1 + body.length) ++ type :: body)).extractLsb' 0 8) body len
  rw [word16_bytes, if_pos rfl] at this
  rw [← this]
  simp [trunkFrame, be16, nat16]

/-- TIMING's arguments are thirteen bytes. -/
theorem timingArgsOfBytes_length {args : List Byte} {t : TimingArgs} (h : timingArgsOfBytes args = some t) :
    args.length = 13 := by
  unfold timingArgsOfBytes at h
  split at h
  · rfl
  · cases h

/-- STREAM SET's configuration is 27 bytes. -/
theorem streamArgsOfBytes_length {args : List Byte} {a : StreamArgs} (h : streamArgsOfBytes args = some a) :
    args.length = 27 := by
  unfold streamArgsOfBytes at h
  split at h
  · rfl
  · cases h

/-- A command without arguments is named by none. -/
theorem noByte_length {rule : State → Answer} {args : List Byte} {r : State → Answer} (h : noByte rule args = some r) :
    args.length = 0 := by
  unfold noByte at h; split at h <;> simp_all

/-- A command with one argument byte is named by one. -/
theorem oneByte_length {rule : Byte → State → Answer} {args : List Byte} {r : State → Answer}
    (h : oneByte rule args = some r) : args.length = 1 := by
  unfold oneByte at h; split at h <;> simp_all

/-- A command with two argument bytes is named by two. -/
theorem twoBytes_length {rule : Byte → Byte → State → Answer} {args : List Byte} {r : State → Answer}
    (h : twoBytes rule args = some r) : args.length = 2 := by
  unfold twoBytes at h; split at h <;> simp_all

/-- The opcodes whose commands take one argument length only, with that length (Table 11-5). -/
def fixedLengths : List (Nat × Nat) :=
  [(0x01, 0), (0x02, 2), (0x03, 2), (0x04, 0), (0x10, 13), (0x11, 0), (0x12, 0), (0x14, 1), (0x18, 0), (0x20, 2),
   (0x21, 1), (0x22, 2), (0x30, 28), (0x31, 1), (0x32, 1), (0x33, 1), (0x34, 1), (0x40, 4), (0x41, 1), (0x51, 1)]

/-- What names a command: a known opcode with its argument length. -/
theorem commandRule_some {opcode : Byte} {args : List Byte} {rule : State → Answer}
    (h : commandRule opcode args = some rule) :
    (opcode.toNat, args.length) ∈ fixedLengths ∨ (opcode.toNat = 0x13 ∧ args ≠ []) ∨
      (opcode.toNat = 0x50 ∧ 3 ≤ args.length) := by
  unfold commandRule at h
  generalize opcode.toNat = n at h ⊢
  split at h
  case h_23 => cases h
  case h_8 => split at h <;> simp_all
  case h_21 => split at h <;> simp_all
  case h_5 =>
    obtain ⟨t, ht, -⟩ := Option.map_eq_some_iff.1 h
    left; rw [timingArgsOfBytes_length ht]; decide
  case h_14 =>
    split at h
    · obtain ⟨t, ht, -⟩ := Option.map_eq_some_iff.1 h
      left; rw [List.length_cons, streamArgsOfBytes_length ht]; decide
    · cases h
  case h_19 =>
    split at h
    · left
      simp only [List.length_cons, List.length_nil]
      decide
    · cases h
  all_goals
    left
    first
    | rw [noByte_length h]; decide
    | rw [oneByte_length h]; decide
    | rw [twoBytes_length h]; decide

/-- The COMMAND frame of a known opcode with arguments of its length does what the command does (R167 to R169). -/
theorem exec_commandFrame (s : State) (h : s.receiver = .hunt) (opcode : Byte) (ref : Word16) (args : List Byte)
    (rule : State → Answer) (known : commandRule opcode args = some rule) (len : args.length ≤ 509) :
    exec (.trunkFrameReceived (trunkFrame typeCommand (opcode :: be16 ref ++ args))) s = command opcode ref rule s := by
  have read := State.receiveBytes_trunkFrame s h typeCommand (opcode :: be16 ref ++ args) (by simp [be16]; omega)
  simp only [exec, execTrunkFrameReceived, command, outsideReset, read]
  simp [State.handOn, be16, known, word16_bytes]

end Sys2Proof.Machine
end

