-- ==== Sys2Proof/Tests/Slice0.lean ====
section
/-! SUPPORT. Tests: the spec's worked examples, well-formedness and the reading of frames; and, for each statement with
hypotheses, concrete states and operands that meet them, clause by clause. -/

set_option maxRecDepth 20000

namespace Sys2Proof.Machine

/-! ## Small states -/

/-- The state a command answers. -/
def after (c : Instr) (s : State) : State :=
  match exec c s with
  | .next t => t
  | .fault _ | .refused _ => s

/-- A node entry with address 40, UP. -/
def upEntry : NodeEntry := { NodeEntry.fresh 40 with state := .up }

/-- The part with node entry 9 as given, in an engine state. -/
def withNode (engine : EngineState) (e : NodeEntry) : State :=
  { State.reset with
    timer := { State.reset.timer with engine := engine }
    nodes := State.reset.nodes.set 9 (some e) }

/-- An exchange with node 9. -/
def polling (carried probe : Bool) : Exchange := { node := 9, g := true, carried := carried, probe := probe }

/-- The part in an exchange state, with an exchange with node 9 in flight. -/
def inExchange (e : NodeEntry) (port : PortState) (replyTimer : Option Nat) (carried probe : Bool) : State :=
  { withNode .running e with
    port :=
      { state := port, exchange := some (polling carried probe), replyTimer := replyTimer, turnGap := none,
        fldDe := port.isSending } }

/-- A payload of three bytes with Tag 263. -/
def payload263 (attempts : Nat) (answered : Bool) : DownPayload :=
  { tag := 263, payload := [1, 2, 3], attempts := attempts, lastAnswered := answered }

/-- A stream of node 9, tag 2: BITS, k 2, R 4, with the given parts. -/
def config (output : SampleOutput) (comparator : Option ComparatorConfig) (integrator : IntegratorMode) : StreamConfig :=
  { node := 9, tag := 2, kind := .bits, k := 2, r := 4, output := output, comparator := comparator,
    integrator := integrator, staleLimit := 2, intervalInSummary := true }

/-- The part with node 9 UP and stream 12 in a state. -/
def withStream (state : StreamState) (c : StreamConfig) : State :=
  { withNode .running upEntry with
    streams := State.reset.streams.set 12 (some { state := state, config := c, run := StreamRun.fresh c }) }

/-- An open report frame with one STALE entry. -/
def openFrame : ReportFrame :=
  { cycle := 7, flags := ⟨false, false, false, false⟩, droppedBefore := 0, entries := [.stale 12 5] }

/-- The part with that frame open. -/
def withOpenFrame : State := { State.reset with queue := { State.reset.queue with openFrame := some openFrame } }

/-! ## The spec's check values and examples -/

/-- The check value of R181. -/
theorem test_crc_check : crc16 [0x31, 0x32, 0x33, 0x34, 0x35, 0x36, 0x37, 0x38, 0x39] = 0x29B1 := by decide +kernel

/-- Table 5-2. -/
theorem test_filter_weights :
    filterWeights 2 4 = [1, 2, 3, 4, 3, 2, 1] ∧ filterWeights 3 3 = [1, 3, 6, 7, 6, 3, 1] ∧
      filterWeights 3 4 = [1, 3, 6, 10, 12, 12, 10, 6, 3, 1] := by decide +kernel

/-- Tables 5-6 and 5-7, both blocks of stream 12. -/
theorem test_stream_12 :
    let c := config (.short 3) none .off
    let first := (StreamRun.fresh c).takeBlock 12 c 1 { tag := 2, kind := .bits, content := [0xB4, 0x6F] }
    let second := first.1.takeBlock 12 c 1 { tag := 2, kind := .bits, content := [0xF0] }
    first.2 = [.add (.sample 12 0 true false false 0), .add (.sample 12 1 false false false 0),
      .add (.sample 12 2 false false false (-1)), .add (.sample 12 3 false false false 1)] ∧
    second.2 = [.add (.sample 12 4 false false false 2), .add (.sample 12 5 false false false (-1))] ∧
    second.1.filter = { history := [-1, -1, -1, -1, 1, 1], phase := 0 } ∧ second.1.outputs = 6 := by decide +kernel

/-- Section 5.8, the example with saturation. -/
theorem test_stream_13_saturates :
    sampleEffects 13 (.short 0) 0 false 80000 = [.raise .saturate, .add (.sample 13 0 false true false 32767)] ∧
      sampleEffects 13 (.short 2) 0 false 80000 = [.add (.sample 13 0 false false false 20000)] := by decide +kernel

/-- The comparator of section 6.6. -/
def comparator20 : ComparatorConfig :=
  { kc := 1, rc := 2, high := 1000, low := -1000, hysteresis := 300, tripCount := 2 }

/-- Section 6.6: a trip, a release at 650, and a LOW count begun by the output that releases. -/
theorem test_stream_20 :
    let r := StreamRun.fresh (config .off (some comparator20) .off)
    let one := (r.compared 20 comparator20 1080).1
    let two := one.compared 20 comparator20 1040
    two.2 = [.add (.trip 20 .high 1040), .raise .trip] ∧ two.1.cmpState = .above ∧
      (two.1.compared 20 comparator20 701).2 = [] ∧
      (two.1.compared 20 comparator20 650).2 = [.add (.release 20 .high .level 650)] ∧
      (two.1.compared 20 comparator20 (-1300)).1.beyondDir = some .low := by decide +kernel

/-- Table 7-4, outputs b, c and d. -/
theorem test_stream_30 :
    let c := config .off none (.count 3 true)
    let w := { (StreamRun.fresh c) with waiting := false, lastInterval := 5000 }
    let b := (w.integrate 30 c 58 1500000000).1
    let o := b.integrate 30 c 58 1200000000
    o.2 = [.raise .saturate] ∧ o.1.sum = 1200000000 ∧ o.1.windowCount = 2 ∧
      (o.1.integrate 30 c 58 (-300000000)).2 = [.add (.summary 30 false true 900000000 2 58 5000)] := by decide +kernel

/-- Table 3-3: the first window's bins give B = 10. -/
theorem test_first_window :
    lowestGap ([8, 9, 16, 17, 18].foldl markBin 0) = some 10 ∧
      lowestGap ((List.range' 8 11).foldl markBin 0) = none := by decide +kernel

/-- Section 9.8, events 5 and 8, with the default DeliverLimit 4: the failed last attempt expires the payload, and A = 0 settles it as LATE. -/
theorem test_late :
    let e := { upEntry with state := .suspect, sendTx := true, retryCount := 1, slot := some (payload263 4 false) }
    let failed := (inExchange e (.awaiting 0) (some 0) true false).failedExchange (polling true false) .timeout
    failed.nodes[9] = some { upEntry with
      state := .suspect, sendTx := true, retryCount := 2, resync := some 263
      counters := { upEntry.counters with timeouts := 1 } } ∧
    (failed.validReply (polling false false) { kind := .idle, f := false, a := false }).nodes[9]
      = some { upEntry with counters := { upEntry.counters with timeouts := 1 } } := by decide +kernel

/-- Section 2.5's example, tick 1500: one untaken slot is counted, the pending list is adopted, and a beacon waits. -/
theorem test_boundary_1500 :
    let s := { State.reset with
      timer := { State.reset.timer with engine := .running, cycleCounter := 10000, cycleNumber := 41 }
      sched :=
        { active := [0, 2, 1, 3, 0], pending := some [0, 1, 2, 3], position := 4, beacon := none, overrunCount := 0 } }
    (after .cycleBoundary s).sched =
        { active := [0, 1, 2, 3], pending := none, position := 0, beacon := some 42, overrunCount := 1 } ∧
      (after .cycleBoundary s).status.flags = Flag.overrun.set := by decide +kernel

/-- Table 11-1: IDENTIFY with Reference 0x1234, written out byte by byte, and the frame it is answered with. -/
theorem test_identify_frame :
    commandFrame (.identify 0x1234) = some [0xA5, 0x00, 0x04, 0x01, 0x01, 0x12, 0x34, 0xD5, 0x54] ∧
      (after (.trunkFrameReceived [0xA5, 0x00, 0x04, 0x01, 0x01, 0x12, 0x34, 0xD5, 0x54]) State.reset).replySlot =
        some
          { opcode := 0x01, ref := 0x1234, status := .ok
            results := [0x2E, 0x71, 0x64, 0x30, 3, 32, 64, 64, 0x10, 0x00, 64, 1, 0, 0] } := by decide +kernel

/-- A field frame's transitions are read back at the nominal threshold. -/
theorem test_field_frame_read_back :
    (hearReply 12 16 Reception.start (frameSpacings 16 (fieldFrame 40 4 [0xA5, 0x00, 0xFF]))).result =
      .complete (fieldFrame 40 4 [0xA5, 0x00, 0xFF]) := by decide +kernel

/-! ## Well-formed commands: an ill-formed term for each check -/

/-- A spacing of 0 reference periods is no spacing. -/
theorem test_wf_spacing_zero : (Instr.replyComplete [{ len := 0, rise := true }]).wf = false := by decide

/-- Successive transitions alternate in direction. -/
theorem test_wf_alternating :
    (Instr.startDelimiter [{ len := 24, rise := true }, { len := 24, rise := true }]).wf = false ∧
      (Instr.startDelimiter [{ len := 24, rise := false }, { len := 24, rise := true }]).wf = true := by decide

/-- Arguments that no frame can carry. -/
theorem test_wf_arguments :
    (Instr.scheduleLoad 0 255 (List.replicate 509 0)).wf = false ∧
      (Instr.scheduleLoad 0 255 (List.replicate 508 0)).wf = true ∧
      (Instr.forward 0 9 1 (List.replicate 507 0)).wf = false ∧
      (Instr.forward 0 9 1 (List.replicate 506 0)).wf = true := by decide +kernel

/-- A LENGTH in range is not the event LENGTH_OUT_OF_RANGE. -/
theorem test_wf_length :
    (Instr.lengthOutOfRange 513).wf = false ∧ (Instr.lengthOutOfRange 1).wf = false ∧
      (Instr.lengthOutOfRange 514).wf = true ∧ (Instr.lengthOutOfRange 0).wf = true := by decide

/-- No row of the table gives bits. -/
theorem test_no_word_spells_a_command : decodeTableWord 16 0x1234 = none := rfl

/-! ## States that meet the hypotheses of the statements -/

/-- The part as master reset holds it. -/
def heldState : State := { State.reset with holding := some .power }

/-- A step with a command at the front of the queue. -/
theorem test_meets_StepRunsFrontCommand : ({ State.reset with pending := [.tick] } : State).pending = .tick :: [] := rfl

theorem test_meets_IdleStepIsOneReferencePeriod :
    (heldState.pending = [] ∧ heldState.holding ≠ none) ∧
      (State.reset.live ∧ State.reset.timer.divider + 1 < State.reset.timer.timing.tickDivide) ∧
      ∃ s : State, s.pending = [] ∧ s.live ∧ s.timer.timing.tickDivide ≤ s.timer.divider + 1 :=
  ⟨by decide, by decide, { State.reset with timer := { State.reset.timer with divider := 15 } }, by decide⟩

theorem test_meets_MasterResetHoldsThePart :
    State.reset.live ∧ heldState.holding ≠ none ∧ Instr.tick ≠ .masterReset .power ∧
      (∀ r1 r0, Instr.tick ≠ .masterResetEnd r1 r0) := by decide

theorem test_meets_ResetEndGivesMasterResetValues : heldState.holding = some .power ∧ State.reset.live := by decide

theorem test_meets_TickAdvancesCountersAndTimers : State.reset.live := by decide

/-- A RUNNING part at the end of a cycle of 10000 ticks. -/
def cycleEnd (position : Nat) (beacon : Option Word16) : State :=
  { withNode .running upEntry with
    timer := { State.reset.timer with engine := .running, cycleCounter := 10000 }
    sched := { active := [9, 3], pending := some [9], position := position, beacon := beacon, overrunCount := 0 } }

/-- With nothing lost, and with one slot and a beacon lost. -/
theorem test_meets_CycleBoundaryTakesSixEffects :
    ((cycleEnd 2 none).live ∧ (cycleEnd 2 none).timer.engine = .running ∧
      (cycleEnd 2 none).timer.timing.cyclePeriod ≤ (cycleEnd 2 none).timer.cycleCounter ∧
      (cycleEnd 2 none).sched.active.length - (cycleEnd 2 none).sched.position = 0) ∧
    (cycleEnd 1 (some 4)).live ∧ (cycleEnd 1 (some 4)).sched.beacon.isSome = true ∧
      (cycleEnd 1 (some 4)).timer.timing.cyclePeriod ≤ (cycleEnd 1 (some 4)).timer.cycleCounter := by decide

/-- A part in each engine state whose Reply Slot is empty. -/
def inEngine (engine : EngineState) : State := withNode engine upEntry

/-- The boundary hypotheses with a pending schedule and without one, in RUNNING and for RUN in HALTED. -/
theorem test_meets_BoundaryAdoptsPendingSchedule :
    (cycleEnd 2 none).sched.pending = some [9] ∧ (inEngine .halted).accepts ∧
      (inEngine .halted).timer.engine = .halted ∧ (inEngine .halted).sched.beacon = none ∧
      (inEngine .halted).sched.pending = none := by decide

theorem test_meets_RunStartsTheEngine :
    (∀ e : EngineState, e = .halted ∨ e = .running ∨ e = .stopping → (inEngine e).accepts ∧
      (inEngine e).timer.engine = e) ∧ (inEngine .halted).sched.beacon = none :=
  ⟨fun e h => by rcases h with rfl | rfl | rfl <;> decide, by decide⟩

/-- HALT in RUNNING with the port IDLE and with it not IDLE, and in STOPPING and HALTED; a boundary still to be taken by the
Stream Engine, by the Report Assembler, by both and by neither. -/
theorem test_meets_HaltStopsTheEngine :
    (∀ notices : BoundaryNotices, ∃ s : State, s.notices = notices ∧ s.accepts ∧ s.timer.engine = .running ∧
      s.port.state = .idle) ∧
    ((inEngine .running).accepts ∧ (inEngine .running).port.state = .idle) ∧
      ((inExchange upEntry (.awaiting 0) (some 5) false false).accepts ∧
        (inExchange upEntry (.awaiting 0) (some 5) false false).port.state ≠ .idle) ∧
      (inEngine .stopping).timer.engine = .stopping ∧ (inEngine .halted).timer.engine = .halted :=
  ⟨fun notices => ⟨{ inEngine .running with notices := notices }, rfl, ⟨rfl, rfl⟩, rfl, rfl⟩, by decide⟩

/-- HALT takes the boundary that the Report Assembler has not reacted to yet, so the open frame is closed with BOUNDARY and not
with HALT, and a frame opened in HALTED stays open (R45, R138). The closed frame has then waited before the reply does (R143). -/
theorem test_halt_takes_boundaries_first :
    let s : State := { withOpenFrame with
      timer := { State.reset.timer with engine := .running }, notices := { streamEngine := [], assembler := 1 } }
    (after (.halt 1) s).queue.closed = [{ openFrame with flags := ⟨false, false, true, false⟩ }] ∧
      (after (.halt 1) s).notices.assembler = 0 ∧ (after (.halt 1) s).tied = [] ∧
      (after .boundaryFrameClose { after (.halt 1) s with queue := withOpenFrame.queue }).queue.openFrame =
        some openFrame := by decide +kernel

/-- A boundary made known; an ACTIVE stream that turns stale, for each integrator mode; and an IDLE one. -/
theorem test_meets_StreamEngineAndAssemblerTakeBoundary :
    (∃ s : State, s.live ∧ s.notices.streamEngine = [7] ∧ s.notices.assembler = 0 + 1) ∧
      (∃ c : StreamCtx, c.state ≠ .active) ∧
      (∀ mode : IntegratorMode, ∃ c : StreamCtx, c.state = .active ∧ c.config.integrator = mode ∧
        c.config.staleLimit ≠ 0 ∧ bumpTo 255 c.run.cyclesSince = c.config.staleLimit ∧ c.run.stale = false) ∧
      withOpenFrame.queue.openFrame = some openFrame ∧ State.reset.queue.openFrame = none := by
  refine ⟨⟨{ State.reset with notices := { streamEngine := [7], assembler := 1 } }, by decide⟩,
    ⟨{ state := .idle, config := config .off none .off, run := StreamRun.fresh (config .off none .off) }, by decide⟩,
    fun mode => ⟨{ state := .active, config := config .off none mode
                   run := { StreamRun.fresh (config .off none mode) with cyclesSince := 1 } },
      rfl, rfl, by simp [config], by simp [config, bumpTo], rfl⟩, rfl, rfl⟩

/-- A waiting beacon with the port ready, and a beacon's transmission in RUNNING and in STOPPING. -/
theorem test_meets_BeaconIsSent :
    (∃ s : State, s.live ∧ s.walks ∧ s.sched.beacon = some 5) ∧
      ∀ e : EngineState, ∃ (s : State) (f : FieldFrame), s.live ∧ s.port.state = .sending f ∧ f.beacon = true ∧
        s.timer.engine = e :=
  ⟨⟨{ inEngine .running with sched := { State.reset.sched with beacon := some 5 } }, by decide⟩, fun e =>
    ⟨{ inEngine e with port := { State.reset.port with state := .sending { beacon := true, bytes := beaconFrame 5 } } },
      { beacon := true, bytes := beaconFrame 5 }, rfl, rfl, rfl, rfl⟩⟩

/-- A RUNNING part with node 9 in use and index 3 FREE, and an active schedule. -/
def walking (active : List (Fin 32)) : State :=
  { inEngine .running with sched := { State.reset.sched with active := active } }

/-- A slot that is taken after one that is skipped, and a list whose only slot is skipped. -/
theorem test_meets_SlotWalkTakesFirstPollingSlot :
    ((walking [3, 9]).live ∧ (walking [3, 9]).walks ∧ (walking [3, 9]).sched.beacon = none ∧
      (walking [3, 9]).sched.position ≤ 1 ∧ (walking [3, 9]).sched.active[1]? = some 9 ∧
      (walking [3, 9]).skipsSlot 1 9 = false ∧
      ∀ (m : Nat) (n : Fin 32), (walking [3, 9]).sched.position ≤ m → m < 1 →
        (walking [3, 9]).sched.active[m]? = some n → (walking [3, 9]).skipsSlot m n = true) ∧
    (walking [3]).sched.position ≤ (walking [3]).sched.active.length ∧
      ∀ (m : Nat) (n : Fin 32), (walking [3]).sched.position ≤ m → (walking [3]).sched.active[m]? = some n →
        (walking [3]).skipsSlot m n = true := by
  refine ⟨⟨by decide, by decide, by decide, by decide, by decide, by decide, ?_⟩, by decide, ?_⟩
  · intro m n _ lt slot
    obtain rfl : m = 0 := by omega
    obtain rfl : (3 : Fin 32) = n := Option.some.inj slot
    decide
  · intro m n _ slot
    rcases m with _ | m
    · obtain rfl : (3 : Fin 32) = n := Option.some.inj slot
      decide
    · exact absurd slot (by simp [walking])

/-- A held entry, one without a payload, and one whose payload is attached. -/
theorem test_meets_PollCarriesEntryFields :
    (∃ e : NodeEntry, e.held = true ∧ e.attached = none) ∧ (upEntry.slot = none ∧ upEntry.attached = none) ∧
      ∃ (e : NodeEntry) (p : DownPayload), e.held = false ∧ e.slot = some p ∧ e.attached = some p :=
  ⟨⟨{ upEntry with held := true }, by decide⟩, by decide,
    { upEntry with slot := some (payload263 0 false) }, payload263 0 false, by decide⟩

/-- A POLL being sent; a turn gap counted out; and, in AWAITING with no violation before and with one, spacings at the ends of
the violation class, 20 to 47, and beyond them. -/
theorem test_meets_PollSentAwaitsAStartDelimiter :
    (∃ (s : State) (f : FieldFrame), s.live ∧ s.port.state = .sending f ∧ f.beacon = false) ∧
      (∃ s : State, s.live ∧ s.port.turnGap = some 0) ∧
      ∀ n : Nat, ∃ s : State, s.live ∧ s.port.state = .awaiting n ∧
        s.cal.thresholdInUse + s.timer.timing.fieldDivide / 2 = 20 ∧ (47 < 3 * s.timer.timing.fieldDivide ∧
          3 * s.timer.timing.fieldDivide ≤ 48) :=
  ⟨⟨inExchange upEntry (.sending { beacon := false, bytes := upEntry.poll true }) none false false,
      { beacon := false, bytes := upEntry.poll true }, by decide⟩,
    ⟨{ State.reset with port := { State.reset.port with turnGap := some 0 } }, by decide⟩,
    fun n => ⟨inExchange upEntry (.awaiting n) (some 400) false false, rfl, rfl,
      (by decide : State.reset.cal.thresholdInUse + State.reset.timer.timing.fieldDivide / 2 = 20),
      (by decide : 47 < 3 * State.reset.timer.timing.fieldDivide ∧ 3 * State.reset.timer.timing.fieldDivide ≤ 48)⟩⟩

/-- Silence between two spacings of the violation class, as an event or as a spacing, keeps them from being a start delimiter
(R48). -/
theorem test_silence_parts_the_delimiter :
    let s := inExchange upEntry (.awaiting 0) (some 400) false false
    let violation : Spacing := { len := 24, rise := true }
    (after (.startDelimiter [violation]) (after (.lineSilence []) (after (.startDelimiter [violation]) s))).port.state =
        .awaiting 1 ∧
      (after (.startDelimiter [violation, { len := 48, rise := false }, violation]) s).port.state = .awaiting 1 ∧
      (after (.startDelimiter [violation]) (after (.startDelimiter [violation]) s)).port.state =
        .receiving Reception.start := by decide +kernel

/-- The part RECEIVING a reply from node 9, at its start. -/
def receivingState : State := inExchange upEntry (.receiving Reception.start) none false false

/-- What a reception of the frame or spacings given makes of them there. -/
def heard (sps : List Spacing) : Hearing :=
  (hearReply receivingState.cal.thresholdInUse receivingState.timer.timing.fieldDivide Reception.start sps).result

/-- A counted-out reply timer; and receptions that end valid, with another node's address, with a violation, and in
silence. -/
theorem test_meets_TimeoutOrReceptionEndsExchange :
    (∃ s : State, s.live ∧ s.port.state = .awaiting 0 ∧ s.port.replyTimer = some 0 ∧
      s.port.exchange = some (polling false false)) ∧
    (receivingState.live ∧ receivingState.port.exchange = some (polling false false) ∧
      receivingState.nodes[9] = some upEntry) ∧
    (heard (frameSpacings 16 (fieldFrame 40 4 [])) = .complete (fieldFrame 40 4 []) ∧
      (judgeFrame upEntry.address (fieldFrame 40 4 [])).isSome = true) ∧
    (heard (frameSpacings 16 (fieldFrame 41 4 [])) = .complete (fieldFrame 41 4 []) ∧
      judgeFrame upEntry.address (fieldFrame 41 4 []) = none) ∧
    heard [{ len := 20, rise := true }] = .spoiled ∧ heard [] = .more Reception.start :=
  ⟨⟨inExchange upEntry (.awaiting 0) (some 0) false false, by decide⟩, by decide, by decide +kernel, by decide +kernel,
    by decide, by decide⟩

/-- Frames without payload whose CRC agrees, with each kind, and one whose CRC does not. -/
theorem test_meets_CompleteFrameIsJudged :
    (∀ ctrl ∈ [(3 : Byte), 4, 5, 2], ∃ c1 c0 : Byte, word16 c1 c0 = crc16 (40 :: ctrl :: 0 :: 0 :: [])) ∧
      ([] : List Byte).length = (word16 0 0).toNat ∧ word16 0 0 ≠ crc16 (40 :: 3 :: 0 :: 0 :: []) := by
  refine ⟨fun ctrl h => ?_, by decide, by decide +kernel⟩
  rcases List.mem_cons.1 h with rfl | h
  · exact ⟨(crc16 [40, 3, 0, 0]).extractLsb' 8 8, (crc16 [40, 3, 0, 0]).extractLsb' 0 8, by decide +kernel⟩
  · rcases List.mem_cons.1 h with rfl | h
    · exact ⟨(crc16 [40, 4, 0, 0]).extractLsb' 8 8, (crc16 [40, 4, 0, 0]).extractLsb' 0 8, by decide +kernel⟩
    · rcases List.mem_cons.1 h with rfl | h
      · exact ⟨(crc16 [40, 5, 0, 0]).extractLsb' 8 8, (crc16 [40, 5, 0, 0]).extractLsb' 0 8, by decide +kernel⟩
      · obtain rfl : ctrl = 2 := by simpa using h
        exact ⟨(crc16 [40, 2, 0, 0]).extractLsb' 8 8, (crc16 [40, 2, 0, 0]).extractLsb' 0 8, by decide +kernel⟩

/-- The classes of spacings at their ends, with the threshold 12 and the bit period 16, at a bit boundary and at a bit's middle;
and the header whose LEN is 600, and 601 (R48, R53). -/
theorem test_spacings_at_the_ends_of_their_classes :
    let hear := fun (middle : Bool) (len : Nat) =>
      hearReply 12 16 { atMiddle := middle, bits := [], bytes := [] } [{ len := len, rise := true }]
    let bit : Hearing := .more { atMiddle := true, bits := [true], bytes := [] }
    (hear false 11 = { measured := [11], result := bit } ∧ hear false 12 = { measured := [12], result := .spoiled } ∧
      hear false 19 = { measured := [19], result := .spoiled } ∧ hear false 20 = { measured := [20], result := .spoiled } ∧
      hear false 47 = { measured := [47], result := .spoiled } ∧ hear false 48 = { measured := [], result := .spoiled }) ∧
    (hear true 11 = { measured := [11], result := .more Reception.start } ∧ hear true 12 = { measured := [12], result := bit } ∧
      hear true 19 = { measured := [19], result := bit } ∧ hear true 20 = { measured := [20], result := .spoiled } ∧
      hear true 47 = { measured := [47], result := .spoiled } ∧ hear true 48 = { measured := [], result := .spoiled }) ∧
    { atMiddle := false, bits := [false, true, false, true, true, false, false], bytes := [40, 3, 2] : Reception }.bit false =
      .more { atMiddle := true, bits := [], bytes := [40, 3, 2, 0x58] } ∧
    { atMiddle := false, bits := [false, true, false, true, true, false, false], bytes := [40, 3, 2] : Reception }.bit true =
      .spoiled := by decide +kernel

/-- The 256th spacing of a window: with bins 8, 9, 16 and 17 occupied before it, and with none. -/
def windowState (bins : BitVec 64) : State :=
  { receivingState with cal := { receivingState.cal with bins := bins, spacingCount := 255 } }

/-- Windows below the 256th spacing and at it; a window that succeeds with B = 9 at most FieldDivide, and one with a single
occupied bin; and receptions that go on and that end with the spacing that completes the window. -/
theorem test_meets_CalibrationWindowIsSearched :
    (State.reset.cal.spacingCount < 255 ∧ (windowState 0).cal.spacingCount = 255) ∧
    (markBin (markBin 0 16) 8).getLsbD 9 = false ∧ (∃ c, c < 9 ∧ (markBin (markBin 0 16) 8).getLsbD c = true) ∧
    (∃ c, 9 < c ∧ c < 64 ∧ (markBin (markBin 0 16) 8).getLsbD c = true) ∧
    (∀ b', b' < 9 → (markBin (markBin 0 16) 8).getLsbD b' = true ∨
      ∀ c, c < b' → (markBin (markBin 0 16) 8).getLsbD c = false) ∧
    (9 ≤ State.reset.timer.timing.fieldDivide) ∧
    (∀ c, c < 64 → (markBin 0 8).getLsbD c = true → c = 8) ∧
    ((windowState 0).live ∧ (windowState 0).port.state = .receiving Reception.start ∧
      (windowState 0).port.exchange = some (polling false false) ∧ (windowState 0).nodes[9] = some upEntry) ∧
    heard [{ len := 8, rise := true }] = .more { atMiddle := true, bits := [true], bytes := [] } ∧
    heard [{ len := 12, rise := true }] = .spoiled :=
  ⟨by decide, by decide, ⟨8, by decide⟩, ⟨16, by decide⟩, by decide, by decide, by decide, by decide, by decide, by decide⟩

theorem test_meets_ExchangeEndReleasesThePort :
    ((inEngine .running).timer.engine ≠ .stopping ∧ (inEngine .stopping).timer.engine = .stopping) ∧
      State.reset.queue.openFrame = none ∧ withOpenFrame.queue.openFrame = some openFrame := by decide

/-- A failed exchange of a DOWN node, of an UNKNOWN one, and of one whose last attempt was carried. -/
theorem test_meets_FailedExchangeAdvancesRetryCount :
    (∀ e : NodeEntry, (withNode .running e).nodes[(polling true false).node] = some e) ∧
      (withNode .running upEntry).timer.timing.retryLimit = 3 ∧ upEntry.retryCount + 1 < 3 ∧
      (withNode .running upEntry).timer.timing.deliverLimit = (payload263 4 false).attempts :=
  ⟨fun _ => rfl, by decide, by decide, by decide⟩

/-- A node that reaches the limit with a payload and without one; and a stream in each comparator state. -/
theorem test_meets_RetryLimitMakesNodeDown :
    (∀ st : ComparatorState, ∃ r : StreamRun, r.cmpState = st) ∧ ∃ e : NodeEntry, e.state ≠ .down ∧ (withNode .running e).nodes[9] = some e ∧
      (withNode .running e).timer.timing.retryLimit ≤ e.retryCount + 1 ∧ e.slot = some (payload263 1 false) ∧
      (∃ e : NodeEntry, e.state ≠ .down ∧ (withNode .running e).timer.timing.retryLimit ≤ e.retryCount + 1 ∧
        e.slot = none) :=
  ⟨fun st => ⟨{ StreamRun.fresh (config .off none .off) with cmpState := st }, rfl⟩,
    { upEntry with retryCount := 2, slot := some (payload263 1 false) }, by decide, rfl, by decide, rfl,
    { upEntry with retryCount := 2 }, by decide, by decide, rfl⟩

/-- Every State that a valid reply may find. -/
theorem test_meets_ValidReplyMakesNodeUp :
    ∀ st : NodeState, ∃ e : NodeEntry, e.state = st ∧ (withNode .running e).nodes[(polling false false).node] = some e :=
  fun st => ⟨{ upEntry with state := st }, rfl, rfl⟩

theorem test_meets_ValidReplyRunsItsStages :
    (withNode .running upEntry).nodes[(polling false false).node] = some upEntry ∧
      (∀ kind : ReplyKind, ∃ r : NodeReply, r.kind = kind) ∧ NodeState.up ≠ .down :=
  ⟨rfl, fun kind => ⟨{ kind := kind, f := false, a := false }, rfl⟩, by decide⟩

/-- One entry for each row of Table 9-1: slot and Resync, and for a present slot each order of A, Attempts and limits. -/
theorem test_meets_ABitSettlesTheDownlink :
    (∀ e : NodeEntry, (withNode .running e).nodes[(9 : Fin 32)] = some e) ∧
      ((payload263 1 true).attempts ≠ 0 ∧ (payload263 0 false).attempts = 0) ∧
      (withNode .running upEntry).timer.timing.holdLimit ≤ { upEntry with holdCount := 8 }.holdCount ∧
      ((payload263 4 true).attempts = (withNode .running upEntry).timer.timing.deliverLimit ∧
        (payload263 4 true).lastAnswered = true) ∧
      (upEntry.slot = none ∧ upEntry.resync = none) ∧ { upEntry with resync := some 263 }.resync = some 263 :=
  ⟨fun _ => rfl, by decide, by decide, by decide, by decide, by decide⟩

/-- A malformed block list, and a well-formed one of 8 bits; the counts at their bounds and beyond them, for both kinds; and a
ninth block. -/
theorem test_meets_DataReplyIsCheckedAndSequenced :
    blockList [] = none ∧ blockList [0x02, 0x00, 0x08, 0xF0] = some [{ tag := 2, kind := .bits, content := [0xF0] }] ∧
      ((word16 0 8).toNat = 8 ∧ (word16 8 0).toNat = 2048) ∧
      (word16 8 8).toNat = 2056 ∧ (word16 0 128).toNat = 128 ∧ (word16 0 129).toNat = 129 ∧ (word16 0 0).toNat = 0 ∧
      ((0x82 : Byte).getLsbD 7 = true ∧ (0x02 : Byte).getLsbD 7 = false ∧ ((2 : Fin 8) : Nat) = (0x82 : Byte).toNat % 8) ∧
      (blockList ((List.replicate 8 [0x02, 0x00, 0x08, 0xF0]).flatten)).isSome = true ∧
      blockList ((List.replicate 9 [0x02, 0x00, 0x08, 0xF0]).flatten) = none ∧
      upEntry.expectRx = false := by decide +kernel

set_option synthInstance.maxHeartbeats 400000 in
set_option synthInstance.maxSize 2000 in
/-- A pair that no stream holds; a stream that is IDLE, and ACTIVE with either kind of block; and contexts in order. -/
theorem test_meets_BlockIsDispatchedToItsStream :
    State.reset.bound 9 2 = none ∧
      (∀ st : StreamState, ∃ c : StreamCtx, (withStream st (config .off none .off)).streams[(12 : Fin 64)] = some c ∧
        c.state = st ∧ c.config.kind = .bits) ∧
      (withStream .idle (config .off none .off)).bound 9 2 = some 12 ∧
      (withStream .active (config .off none .off)).bound 9 2 = some 12 ∧
      (withStream .active (config .off none .off)).streamsOk :=
  ⟨by decide +kernel, fun _ => ⟨_, rfl, rfl, rfl⟩, by decide +kernel, by decide +kernel, by decide +kernel⟩

/-- A filter of order 2 and ratio 4 before its third and fourth inputs, and one of ratio 1. -/
theorem test_meets_FilterOutputIsWeightedSum :
    ([0, 0, 0, 0, 0, 0] : List Int).length = 2 * (4 - 1) ∧ 2 + 1 < 4 ∧ 3 + 1 = 4 ∧
      ([] : List Int).length = 2 * (1 - 1) ∧ 0 + 1 = 1 := by decide

/-- Both ends of the SHORT range, and the values beyond them. -/
theorem test_meets_ShortSampleSaturates :
    ((32767 : Int) = 32767 / (2 : Int) ^ 0 ∧ (-32768 : Int) = -32768 / (2 : Int) ^ 0) ∧
      (32767 : Int) < 32768 / (2 : Int) ^ 0 ∧ (-32769 : Int) / (2 : Int) ^ 0 < -32768 ∧
      (config (.short 0) none .off).output = .short 0 := by decide

/-- Totals at both ends of the range and beyond them, and counts below their end and at it. -/
theorem test_meets_IntegratorAddsOrOverflows :
    ((65534 : Word16).toNat < 65535 ∧ (65535 : Word16).toNat = 65535) ∧
      ((2147483647 : Int) = 2147483646 + 1 ∧ (-2147483648 : Int) = -2147483647 + -1) ∧
      (2147483647 : Int) < 2147483647 + 1 ∧ (-2147483648 : Int) + -1 < -2147483648 := by decide

/-- A window of three outputs before its first and before its third, and one that waits. -/
theorem test_meets_CountWindowClosesAtN :
    let r := StreamRun.fresh (config .off none (.count 3 true))
    r.waiting = true ∧ ({ r with waiting := false }.waiting = false ∧ (bump r.windowCount).toNat ≠ 3) ∧
      (bump { r with windowCount := 2 }.windowCount).toNat = 3 := by decide

/-- Outputs at the limits and beyond either, below and at the count of 2. -/
theorem test_meets_ComparatorCountsAndTrips :
    let m := comparator20
    (m.low ≤ 1000 ∧ 1000 ≤ m.high ∧ m.low ≤ -1000) ∧ m.low < m.high ∧ (m.high < 1001 ∧ -1001 < m.low) ∧
      (1 < m.tripCount ∧ m.tripCount ≤ 1 + 1) ∧
      (StreamRun.fresh (config .off (some m) .off)).cmpState = .inside := by decide

/-- Outputs at the release levels 700 and −700, and one short of them. -/
theorem test_meets_ComparatorReleasesAtLevel :
    let m := comparator20
    (700 ≤ m.high - m.hysteresis ∧ m.high - m.hysteresis < 701) ∧ (m.low + m.hysteresis ≤ -700 ∧
      -701 < m.low + m.hysteresis) ∧
      ∀ st : ComparatorState, { StreamRun.fresh (config .off (some m) .off) with cmpState := st }.cmpState = st :=
  ⟨by decide, by decide, fun _ => rfl⟩

/-- A closed frame of 32 entries of 8 bytes, 262 bytes long. -/
def fullFrame : ReportFrame :=
  { cycle := 7, flags := ⟨true, false, false, false⟩, droppedBefore := 0
    entries := List.replicate 32 (.release 12 .high .level 5) }

/-- A queue with an open frame, an empty one, and one of 4088 bytes, which has no room for a SUMMARY; and streams that are all
UNUSED, without effects. -/
theorem test_meets_EntryJoinsOpensOrIsDropped :
    (withOpenFrame.queue.openFrame = some openFrame ∧ openFrame.entries.length < 32 ∧
      (withOpenFrame.queue.frames.map ReportFrame.size).sum + (Entry.stale 12 5).size ≤ 4096) ∧
    (State.reset.queue.openFrame = none ∧ State.reset.queue.frames.length < 64) ∧
    (∀ i : Fin 64, (Vector.replicate 64 none : Vector (Option StreamCtx) 64)[i] = none ∧ State.reset.streams[i] = none) ∧
    ∃ q : UplinkQueue, q.openFrame = none ∧ q.ok ∧
      ¬ (q.frames.map ReportFrame.size).sum + 6 + (Entry.summary 12 true false 0 0 0 0).size ≤ 4096 := by
  refine ⟨by decide +kernel, by decide, by decide, ?_⟩
  exact ⟨{ State.reset.queue with
    closed := List.replicate 15 fullFrame ++ [{ fullFrame with entries := List.replicate 19 (.release 12 .high .level 5) }]
    throttled := true }, by decide +kernel⟩

/-- What an event notes (R143): two frames that begin to wait when none did; nothing when one does, when the transmitter is busy
or becomes so; and what was noted stands while a frame waits. -/
theorem test_settle_notes_frames_that_begin_together :
    let none' : State := { State.reset with tied := [.alert, .report] }
    let one : State := none'.replied 0x01 1 .ok []
    let two : State := { one with status := { one.status with alertSlot := some { flags := 1, mask := 1, cycle := 0 } } }
    let busy := fun s : State => { s with transmission := some { source := .report, bytes := [0xA5] } }
    none'.waiting = [] ∧ one.waiting = [.reply] ∧ two.waiting = [.reply, .alert] ∧
      (none'.settle two).tied = [.reply, .alert] ∧ (none'.settle one).tied = [] ∧ (none'.settle none').tied = [] ∧
      (one.settle two).tied = [.alert, .report] ∧ ((busy none').settle two).tied = [] ∧ (one.settle (busy two)).tied = [] := by
  decide +kernel

/-- The failed exchange that makes a node DOWN raises NODE and closes a frame with URGENT in one event: the two begin to wait
together (R143). -/
theorem test_alert_and_report_of_one_event_begin_together :
    let s := inExchange { upEntry with retryCount := 2 } (.awaiting 0) (some 0) false false
    let t := after .replyTimeout { s with status := { s.status with mask := Flag.node.set } }
    t.tied = [.alert, .report] ∧ t.contenders = [.alert, .report] := by decide +kernel

/-- A window that fails midway raises LINE before the reply's end closes the open frame: the ALERT waited first, though one step
carries both (R59, R143). -/
theorem test_failed_window_waits_before_the_report :
    let s : State := { windowState 0 with
      timer := { State.reset.timer with engine := .stopping }
      queue := withOpenFrame.queue
      status := { State.reset.status with mask := Flag.line.set } }
    let t := after (.replyComplete (frameSpacings 16 (fieldFrame 40 4 []))) s
    t.status.alertSlot.isSome = true ∧ t.queue.closed = [{ openFrame with flags := ⟨false, false, false, true⟩ }] ∧
      t.tied = [] ∧ t.contenders = [] ∧ (after .transmitBegin t).transmission.map (·.source) = some .alert := by
  decide +kernel

/-- Of two frames in one step the first is answered and the second dropped: its ALERT began to wait after the REPLY (R143,
R168). -/
theorem test_reply_waits_before_the_alert_of_a_drop :
    let s : State := { State.reset with status := { State.reset.status with mask := Flag.trunk.set } }
    let frame := trunkFrame 0x01 [0x01, 0x12, 0x34]
    let t := after (.trunkFrameReceived (frame ++ frame)) s
    t.replySlot.isSome = true ∧ t.status.alertSlot.isSome = true ∧ t.droppedCommands = 1 ∧ t.tied = [] ∧
      t.contenders = [] := by decide +kernel

/-- Each waiting frame with nothing before it; an ALERT and a REPLY that began to wait together; and an ALERT and a REPORT that
did, with a REPLY placed after them, which is then taken first (R143). -/
theorem test_meets_TransmitterTakesWaitingFrames :
    let reply : State := State.reset.replied 0x01 1 .ok []
    let alert : State := { State.reset with status := { State.reset.status with
      alertSlot := some { flags := 1, mask := 1, cycle := 0 } } }
    let report : State := { State.reset with queue := { State.reset.queue with closed := [openFrame] } }
    let both : State := { alert with replySlot := reply.replySlot, tied := [.reply, .alert] }
    let late : State := { alert with
      replySlot := reply.replySlot, queue := report.queue, tied := [.alert, .report] }
    (reply.live ∧ reply.transmission = none ∧ reply.contenders = [] ∧ reply.replySlot ≠ none) ∧
      (alert.contenders = [] ∧ alert.replySlot = none ∧ alert.status.alertSlot ≠ none) ∧
      (report.contenders = [] ∧ report.replySlot = none ∧ report.status.alertSlot = none) ∧
      (both.waiting = [.reply, .alert] ++ [] ∧ both.contenders ≠ []) ∧
      (late.contenders = [] ∧ (after .transmitBegin late).transmission.map (·.source) = some .reply) ∧
      ({ late with replySlot := none }.contenders = [.alert, .report]) ∧
      { late with transmission := some { source := .alert, bytes := [0xA5] } }.trunkDrive =
        [.start, .data 0xA5, .stop] := by decide +kernel

/-- Armed with a masked flag, disarmed, and with nothing masked. -/
theorem test_meets_RaiseDrivesAlert :
    (State.reset.status.armed = true ∧ (0 ||| (1#10 <<< Flag.trip.bit)) &&& 1#10 ≠ 0) ∧
      { State.reset.status with armed := false }.armed = false ∧
      (State.reset.status.flags ||| (1#10 <<< Flag.trip.bit)) &&& State.reset.status.mask = 0 := by decide

/-- Both causes of a reset, both line states and the four exchange states, each with the Reply Slot empty. -/
theorem test_meets_IdentifyAndLineReadAnswer :
    State.reset.accepts ∧ State.reset.status.resetCause = .power ∧
      (State.masterReset .pin false false).status.resetCause = .pin ∧ State.reset.cal.line = .seeking ∧
      (State.reset.cal.succeed 10).line = .locked ∧ receivingState.accepts := by decide

/-- A flag that stays masked after a clear and one that does not; and for ALERT MASK, armed and disarmed. -/
theorem test_meets_StatusClearsAndAlertMaskReplaces :
    let s : State := { State.reset with status := { State.reset.status with flags := 1, mask := 1, armed := false } }
    s.accepts ∧ (s.status.flags &&& ~~~ ((1 : Word16).setWidth 10) &&& s.status.mask = 0) ∧
      (s.status.flags &&& ~~~ ((0 : Word16).setWidth 10) &&& s.status.mask ≠ 0) ∧ s.status.armed = false ∧
      (State.reset.status.armed = true ∧ (1#10 &&& (1 : Word16).setWidth 10) ≠ 0) := by decide

theorem test_meets_FlushReturnsToStart : receivingState.accepts := by decide

/-- Configurations at the ends of Table 5-4. -/
theorem test_meets_RestartGivesStartingValues :
    (config .off none (.count 3 true)).ok ∧ { config .off none .off with k := 3, r := 2 }.ok ∧
      { config .off none .off with k := 3, r := 256 }.ok ∧ { config .off none .off with k := 1, r := 1 }.ok ∧
      (config .off (some comparator20) .off).ok :=
  ⟨by decide +kernel, by decide +kernel, by decide +kernel, by decide +kernel, by decide +kernel⟩

/-- The default parameters as TIMING's arguments. -/
def defaultArgs (fieldDivide : Byte) : TimingArgs :=
  { tickDivide := 16, cyclePeriod := 10000, replyTimeout := 400, turnGap := 20, retryLimit := 3, probeInterval := 10,
    deliverLimit := 4, holdLimit := 8, fieldDivide := fieldDivide }

/-- Limits lowered lower the counts that stand at or beyond them, and limits raised leave the counts as they stand, a
HoldCount of 20 included (R42). -/
theorem test_raised_limits_leave_counts :
    let e : NodeEntry := { upEntry with retryCount := 2, holdCount := 20 }
    e.limited Timing.default { Timing.default with retryLimit := 1, holdLimit := 4 } =
        { upEntry with retryCount := 1, holdCount := 3 } ∧
      e.limited Timing.default { Timing.default with retryLimit := 5, holdLimit := 10 } = e := by decide

/-- An engine that is not HALTED; parameters in range, and a FieldDivide that is no multiple of 4; limits raised, kept and
lowered. -/
theorem test_meets_TimingReplacesParameters :
    (inEngine .running).timer.engine ≠ .halted ∧ (State.reset.accepts ∧ State.reset.timer.engine = .halted) ∧
      Timing.default.ok ∧ ¬ { Timing.default with fieldDivide := 18 }.ok ∧
      parseTiming (defaultArgs 16) = some Timing.default ∧
      (∀ limit ∈ [1, 8, 255], { Timing.default with holdLimit := limit }.ok) := by decide

/-- A count that does not match, one above 64, an index above 31, and a list at the bound of 64; both selectors. -/
theorem test_meets_SchedulesAreLoadedAndRead :
    ([] : List Byte).length ≠ (1 : Byte).toNat ∧
      ((List.replicate 65 (0 : Byte)).length = (65 : Byte).toNat ∧ 64 < (65 : Byte).toNat) ∧
      (∃ b ∈ [(32 : Byte)], 31 < b.toNat) ∧
      (List.replicate 64 (31 : Byte) = (List.replicate 64 (31 : Fin 32)).map (fun (i : Fin 32) => nat8 i) ∧
        (64 : Byte).toNat ≤ 64) ∧
      (cycleEnd 2 none).sched.pending = some [9] ∧ State.reset.sched.pending = none ∧ 1 < (2 : Byte).toNat :=
  ⟨by decide, by decide, ⟨32, by decide⟩, by decide, by decide, by decide, by decide⟩

/-- Node 9 in use at address 40 with a stream bound, without one, and with a payload; index 3 FREE. -/
theorem test_meets_NodesAreSetAndDeleted :
    (31 < (32 : Byte).toNat ∧ 126 < (127 : Byte).toNat) ∧ ((9 : Byte) = nat8 (9 : Fin 32) ∧ (3 : Byte) = nat8 (3 : Fin 32)) ∧
      (∃ j : Fin 32, j ≠ 3 ∧ ∃ e, (inEngine .halted).nodes[j] = some e ∧ e.address = 40) ∧
      (inEngine .halted).nodes[(3 : Fin 32)] = none ∧
      (∃ e, (inEngine .halted).nodes[(9 : Fin 32)] = some e ∧ e.slot = none ∧
        (inEngine .halted).port.exchange = none) ∧
      (∃ e : NodeEntry, (withNode .halted e).nodes[(9 : Fin 32)] = some e ∧ e.slot ≠ none) ∧
      ∃ c : StreamCtx, (withStream .idle (config .off none .off)).streams[(12 : Fin 64)] = some c ∧ c.config.node = 9 :=
  ⟨by decide, by decide, ⟨9, by decide, upEntry, by decide⟩, by decide, ⟨upEntry, by decide⟩,
    ⟨{ upEntry with slot := some (payload263 0 false) }, rfl, by decide⟩, ⟨_, rfl, rfl⟩⟩

/-- An entry with Resync set and a slot absent, and one with Resync clear and a slot present; both clear options. -/
theorem test_meets_NodeReadAnswersEntry :
    (31 < (32 : Byte).toNat ∧ 1 < (2 : Byte).toNat) ∧ State.reset.nodes[(9 : Fin 32)] = none ∧
      (∀ e : NodeEntry, (withNode .halted e).accepts ∧ (withNode .halted e).nodes[(9 : Fin 32)] = some e) ∧
      { upEntry with resync := some 263 }.resync = some 263 ∧
      { upEntry with slot := some (payload263 0 false) }.slot = some (payload263 0 false) :=
  ⟨by decide, by decide, fun _ => ⟨⟨rfl, rfl⟩, rfl⟩, rfl, rfl⟩

/-- Payloads of 0, 1, 64 and 65 bytes; a DOWN node, a present slot, a set Resync, and a free slot. -/
theorem test_meets_ForwardFillsAndCancelEmptiesTheSlot :
    (([] : List Byte).length = 0 ∧ 64 < (List.replicate 65 (0 : Byte)).length ∧
      (List.replicate 64 (0 : Byte)).length ≤ 64 ∧ 1 ≤ ([0] : List Byte).length) ∧
    (∀ e : NodeEntry, (withNode .halted e).accepts ∧ (withNode .halted e).nodes[(9 : Fin 32)] = some e) ∧
    { upEntry with state := .down }.state = .down ∧
    ({ upEntry with slot := some (payload263 1 false) }.slot ≠ none ∧ { upEntry with resync := some 263 }.resync ≠ none) ∧
    (upEntry.state ≠ .down ∧ upEntry.slot = none ∧ upEntry.resync = none) :=
  ⟨by decide, fun _ => ⟨⟨rfl, rfl⟩, rfl⟩, rfl, by decide, by decide⟩

/-- STREAM SET's arguments for node 9, tag 2: BITS, k 2, R 4, everything else OFF. -/
def streamArgs (k : Byte) : StreamArgs :=
  { node := 9, tag := 2, kind := 0, k := k, r := 4, output := 0, shift := 255, comparator := 0, kc := 9, rc := 0,
    high := 0, low := 0, hysteresis := 0, tripCount := 0, integrator := 0, n := 0, align := 7, staleLimit := 0,
    intervalInSummary := 0 }

/-- A running stream, a FREE node, a pair held by another stream, a bad order k, and a good configuration. -/
theorem test_meets_StreamSetConfigures :
    (withStream .active (config .off none .off)).accepts ∧
      (∃ c, (withStream .active (config .off none .off)).streams[(12 : Fin 64)] = some c ∧ c.state ≠ .idle) ∧
      State.reset.nodes[(9 : Fin 32)] = none ∧
      ((withStream .active (config .off none .off)).nodes[(9 : Fin 32)] ≠ none ∧
        (withStream .active (config .off none .off)).streams[(13 : Fin 64)] = none ∧
        (config .off none .off).node = 9 ∧ (config .off none .off).tag = 2) ∧
      (streamArgs 2).node = nat8 (9 : Fin 32) ∧ parseStream (streamArgs 4) 9 2 = none ∧
      parseStream (streamArgs 2) 9 2 = some { config .off none .off with staleLimit := 0, intervalInSummary := false } :=
  ⟨by decide +kernel, ⟨_, rfl, by decide⟩, by decide, by decide, by decide, by decide, by decide⟩

/-- Arguments within and outside each group of ranges. -/
theorem test_meets_ConfigurationRangesAreChecked :
    (parseStream (streamArgs 3) 9 2).isSome = true ∧ (parseStream (streamArgs 0) 9 2).isNone = true ∧
      (parseStream { streamArgs 2 with output := 1 } 9 2).isNone = true ∧
      (parseStream { streamArgs 2 with output := 1, shift := 24 } 9 2).isSome = true ∧
      (parseStream { streamArgs 2 with comparator := 1 } 9 2).isNone = true ∧
      (parseStream { streamArgs 2 with comparator := 1, kc := 3, rc := 32, high := 1, tripCount := 15 } 9 2).isSome = true ∧
      (parseStream { streamArgs 2 with integrator := 1, n := 128 } 9 2).isNone = true ∧
      (parseStream { streamArgs 2 with integrator := 1, n := 128, align := 1 } 9 2).isSome = true ∧
      (parseStream { streamArgs 3 with kind := 1, r := 41 } 9 2).isNone = true ∧
      (parseStream { streamArgs 3 with kind := 1, r := 40 } 9 2).isSome = true := by decide +kernel

/-- A stream above 63, an UNUSED one, and one in each other state; a node that is DOWN and one that is not; a trip. -/
theorem test_meets_StreamsAreEnabledDisabledDeleted :
    63 < (64 : Byte).toNat ∧ (12 : Byte) = nat8 (12 : Fin 64) ∧ State.reset.streams[(12 : Fin 64)] = none ∧
      (∀ st : StreamState, (withStream st (config .off none .off)).accepts ∧
        ∃ c, (withStream st (config .off none .off)).streams[(12 : Fin 64)] = some c ∧ c.state = st ∧
          c.run.cmpState = .inside) ∧
      (∃ e, (withNode .running e).nodes[(9 : Fin 32)] = some e ∧ e.state = .down) ∧ upEntry.state ≠ .down ∧
      { StreamRun.fresh (config .off (some comparator20) .off) with cmpState := .above }.cmpState = .above :=
  ⟨by decide, by decide, by decide, fun _ => ⟨⟨rfl, rfl⟩, _, rfl, rfl, rfl⟩,
    ⟨{ upEntry with state := .down }, rfl, rfl⟩, by decide, rfl⟩

theorem test_meets_StreamReadAnswersContext :
    (withStream .active (config .off none .off)).accepts ∧ 63 < (64 : Byte).toNat ∧
      State.reset.streams[(12 : Fin 64)] = none ∧
      ∃ c, (withStream .active (config .off none .off)).streams[(12 : Fin 64)] = some c ∧
        parseStream { streamArgs 2 with staleLimit := 2, intervalInSummary := 1 } 9 2 = some c.config :=
  ⟨by decide +kernel, by decide, by decide, _, rfl, by decide⟩

/-- Marks refused and accepted, with the occupancy 10 of one open frame above, between and below them; and no open frame. -/
theorem test_meets_QueueMarksAreSetAndQueueIsRead :
    (withOpenFrame.queue.frames.map ReportFrame.size).sum = 10 ∧ withOpenFrame.accepts ∧
      (withOpenFrame.queue.openFrame = some openFrame ∧ State.reset.accepts ∧ State.reset.queue.openFrame = none) ∧
      ((5 : Word16).toNat ≤ (5 : Word16).toNat ∧ 4096 < (4097 : Word16).toNat) ∧
      ((0 : Word16).toNat < (10 : Word16).toNat ∧ (10 : Word16).toNat ≤ 10) ∧
      ((10 : Word16).toNat < (4096 : Word16).toNat ∧ (4096 : Word16).toNat ≤ 4096) ∧
      ((9 : Word16).toNat < 10 ∧ 10 < (11 : Word16).toNat) ∧ 1 < (2 : Byte).toNat := by decide +kernel

/-- A full Reply Slot; a TYPE that is not COMMAND, a body of two bytes, an unknown opcode, and argument lengths that do not
match; with a full Reply Slot a frame that would be answered FORMAT is dropped too. -/
theorem test_meets_GoodFramesAreDroppedOrAnsweredFormat :
    (State.reset.replied 0x01 1 .ok []).live ∧ (State.reset.replied 0x01 1 .ok []).replySlot ≠ none ∧
      commandBody (.run 1) ≠ none ∧ (State.reset.accepts ∧ State.reset.receiver = .hunt) ∧
      (0x81 : Byte) ≠ 0x01 ∧ ([1, 2] : List Byte).length < 3 ∧
      (0x15 : Byte).toNat ∉ [0x01, 0x02, 0x03, 0x04, 0x10, 0x11, 0x12, 0x13, 0x14, 0x18, 0x20, 0x21, 0x22, 0x30, 0x31,
        0x32, 0x33, 0x34, 0x40, 0x41, 0x50, 0x51] ∧
      (([7] : List Byte).length ≠ 0 ∧ ((0x01 : Byte).toNat, 0) ∈ [((0x01 : Nat), (0 : Nat)), (0x02, 2)]) ∧
      (∀ count ∈ ([2, 9] : List Byte).head?, ([2, 9] : List Byte).length ≠ 1 + count.toNat) ∧
      ([9, 0] : List Byte).length < 3 ∧
      (after (.trunkFrameReceived (trunkFrame 0x01 [0x01, 0, 5, 7])) State.reset).replySlot =
        some { opcode := 0x01, ref := 5, status := .format, results := [] } ∧
      (after (.trunkFrameReceived (trunkFrame 0x81 [])) (State.reset.replied 0x01 1 .ok [])).droppedCommands = 1 := by
  decide +kernel

/-- A receiver in every state, within its bounds and at them; a frame begun by the bytes given and none; a CRC that agrees and
one that does not; LENGTH 1, 513, 0, 0xA5FF, 0xFFA5 and 514. -/
theorem test_meets_BadFramesAreDiscardedFalseStartsAreNot :
    (∀ r : ReceiverState, ∃ s : State, s.live ∧ s.receiver = r) ∧
    (([0xA5, 0, 4, 1].foldl State.receiveByte State.reset).receiver ≠ .hunt ∧
      ([0x11].foldl State.receiveByte State.reset).receiver = .hunt) ∧
    (([] : List Byte).length + 1 < (2 : Word16).toNat ∧ ([7] : List Byte).length + 1 = (2 : Word16).toNat) ∧
    (ReceiverState.ok (.content 2 [7]) = true ∧ ReceiverState.ok (.check 2 [7, 8] [9]) = true ∧
      ReceiverState.ok (.length [9]) = true) ∧
    (∃ c1 c0 : Byte, word16 c1 c0 = crc16 (be16 (1 : Word16) ++ [0x01])) ∧
      word16 0 0 ≠ crc16 (be16 (1 : Word16) ++ [0x01]) ∧
    ((word16 0 1).toNat = 1 ∧ (word16 2 1).toNat = 513) ∧ word16 0 0 = 0 ∧ 513 < (word16 0xA5 0xFF).toNat ∧
      513 < (word16 0xFF 0xA5).toNat ∧ 513 < (word16 2 2).toNat :=
  ⟨fun r => ⟨{ State.reset with receiver := r }, rfl, rfl⟩, by decide, by decide, by decide,
    ⟨(crc16 [0, 1, 1]).extractLsb' 8 8, (crc16 [0, 1, 1]).extractLsb' 0 8, by decide +kernel⟩, by decide +kernel, by decide,
    by decide, by decide, by decide, by decide⟩

theorem test_meets_CommandFramesExecuteTheirCommand :
    (Instr.scheduleLoad 1 2 [9, 3]).wf = true ∧ (commandFrame (.scheduleLoad 1 2 [9, 3])).isSome = true ∧
      State.reset.receiver = .hunt := by decide +kernel

/-- Both ends of FieldDivide and of the payload; a part that is SENDING and one that is not; and a byte in progress before its
eighth bit and at it. The ends of the classes: test_spacings_at_the_ends_of_their_classes. -/
theorem test_meets_FieldFrameIsReadBack :
    (8 ≤ 8 ∧ 8 ≤ 48 ∧ 8 % 4 = 0) ∧ (8 ≤ 48 ∧ 48 ≤ 48 ∧ 48 % 4 = 0) ∧ (List.replicate 600 (0 : Byte)).length ≤ 600 ∧
      (∀ f : FieldFrame, (inExchange upEntry (.sending f) none false false).port.state = .sending f) ∧
      (∀ f : FieldFrame, State.reset.port.state ≠ .sending f) ∧
      (11 < 12 ∧ 12 ≤ 12 ∧ 19 < 12 + 16 / 2 ∧ 12 + 16 / 2 ≤ 20 ∧ 47 < 3 * 16 ∧ 3 * 16 ≤ 48) ∧
      (List.replicate 6 true).length < 7 ∧ (List.replicate 7 true).length = 7 :=
  ⟨by decide, by decide, by decide, fun _ => rfl, fun _ => PortState.noConfusion, by decide, by decide, by decide⟩

set_option synthInstance.maxHeartbeats 400000 in
set_option synthInstance.maxSize 2000 in
/-- The invariants hold in a state other than reset, and a step from it answers a next state. -/
theorem test_meets_EveryStepKeeps :
    let s : State := { receivingState with pending := [.lineSilence []] }
    s.clockOk ∧ s.calibratorOk ∧ s.queueOk ∧ s.alertOk ∧ s.portOk ∧ s.nodesOk ∧ s.streamsOk ∧
      step s = .next (after (.lineSilence []) { s with pending := [] }) :=
  ⟨by decide +kernel, by decide +kernel, by decide +kernel, by decide +kernel, by decide +kernel, by decide +kernel,
    by decide +kernel, rfl⟩

end Sys2Proof.Machine
end

