-- ==== Sys2Proof/Proofs/NodeSetDelete.lean ====
section
/-! SUPPORT. NODE SET and NODE DELETE: what their checks read, the answer of each rule at each check, and the statement that
both commands have their checks in order and their effects (R17, R18, R19). -/

namespace Sys2Proof.Machine

/-! ## A host command by its rule's answer -/

/-- A taken command whose rule refuses changes nothing but the Reply Slot (R169). -/
theorem command_of_refuse {s : State} (h : s.accepts) (opcode : Byte) (ref : Word16) {body : State → Answer}
    {status : Status} (answer : body s = refuse s status) :
    command opcode ref body s = .next (s.settle (s.replied opcode ref status [])) := by
  rw [command_of_accepts_alone h opcode ref (by rw [answer]; rfl), answer, refuse_place]

/-- A taken command whose rule answers a state has that state's effects, and then the reply is placed (R169). -/
theorem command_of_answer {s t : State} (h : s.accepts) (opcode : Byte) (ref : Word16) {body : State → Answer}
    {status : Status} {results : List Byte}
    (answer : body s = { state := t, status := status, results := results }) :
    command opcode ref body s = .next (s.settle (t.replied opcode ref status results)) := by
  rw [command_of_accepts_alone h opcode ref (by rw [answer]), answer]
  rfl

/-! ## What the checks read -/

/-- A byte above 31 names no node index. -/
theorem nodeIndex_eq_none {b : Byte} (h : 31 < b.toNat) : nodeIndex b = none := by
  simp [nodeIndex, show ¬ b.toNat < 32 by omega]

/-- The byte of a node index names it. -/
@[simp] theorem nodeIndex_nat8 (i : Fin 32) : nodeIndex (nat8 i) = some i := by
  have value : (nat8 i).toNat = i := by
    rw [nat8, BitVec.toNat_ofNat]
    exact Nat.mod_eq_of_lt (by omega)
  simp [nodeIndex, value]

/-- An exchange with the node is in flight (R4). -/
theorem State.inFlight_iff {s : State} {i : Fin 32} :
    s.inFlight i = true ↔ ∃ x, s.port.exchange = some x ∧ x.node = i := by
  unfold State.inFlight
  cases s.port.exchange <;> simp

/-- An address is taken when another in-use entry holds it (R17, check 3). -/
theorem State.addressTaken_iff {s : State} {i : Fin 32} {address : Byte} :
    s.addressTaken i address = true ↔ ∃ j : Fin 32, j ≠ i ∧ ∃ e, s.nodes[j] = some e ∧ e.address = address := by
  simp only [State.addressTaken, List.any_eq_true, List.mem_finRange, true_and, Bool.and_eq_true, bne_iff_ne]
  refine exists_congr fun j => and_congr_right fun _ => ?_
  cases s.nodes[j] <;> simp

/-- A node is bound when a stream other than UNUSED names it (R19, check 3). -/
theorem State.nodeBound_iff {s : State} {i : Fin 32} :
    s.nodeBound i = true ↔ ∃ (k : Fin 64) (c : StreamCtx), s.streams[k] = some c ∧ c.config.node = i := by
  simp only [State.nodeBound, List.any_eq_true, List.mem_finRange, true_and]
  refine exists_congr fun k => ?_
  cases s.streams[k] <;> simp

/-- An entry is busy with a payload in its slot or an exchange in flight (R17, check 4; R19, check 4). -/
theorem State.nodeBusy_iff {s : State} {i : Fin 32} {e : NodeEntry} :
    s.nodeBusy i e = true ↔ e.slot ≠ none ∨ ∃ x, s.port.exchange = some x ∧ x.node = i := by
  rw [State.nodeBusy, Bool.or_eq_true, State.inFlight_iff, Option.isSome_iff_ne_none, or_comm]

/-- The entry at an index is in use and busy. -/
theorem State.any_nodeBusy_iff {s : State} {i : Fin 32} :
    s.nodes[i].any (s.nodeBusy i) = true ↔
      ∃ e, s.nodes[i] = some e ∧ (e.slot ≠ none ∨ ∃ x, s.port.exchange = some x ∧ x.node = i) := by
  cases s.nodes[i] <;> simp [State.nodeBusy_iff]

/-! ## NODE SET (R17, R18) -/

/-- The table and the Unclaimed counter as NODE SET leaves them, before the streams' notice (R17). -/
def State.withFreshNode (s : State) (i : Fin 32) (address : Byte) : State :=
  { s with unclaimed := s.unclaimed.set i 0, nodes := s.nodes.set i (some (NodeEntry.fresh address)) }

/-- For a FREE entry NODE SET gives the streams no notice (R18). -/
theorem State.setNode_of_free {s : State} {i : Fin 32} (free : s.nodes[i] = none) (address : Byte) :
    s.setNode i address = s.withFreshNode i address := by
  rw [State.setNode, free]
  rfl

/-- For an entry IN USE each ACTIVE and each SUSPENDED stream of the node is restarted (R18). -/
theorem State.setNode_of_inUse {s : State} {i : Fin 32} (inUse : s.nodes[i] ≠ none) (address : Byte) :
    s.setNode i address = (s.withFreshNode i address).resetStreams i := by
  rw [State.setNode, Option.isSome_iff_ne_none.2 inUse]
  rfl

/-- Check 1 of NODE SET. -/
theorem nodeSet_of_index {index : Byte} (h : 31 < index.toNat) (address : Byte) (s : State) :
    nodeSet index address s = refuse s .range := by
  rw [nodeSet, nodeIndex_eq_none h]

/-- Check 2 of NODE SET; an index out of range answers the same. -/
theorem nodeSet_of_address {address : Byte} (h : address.toNat < 1 ∨ 126 < address.toNat) (index : Byte) (s : State) :
    nodeSet index address s = refuse s .range := by
  unfold nodeSet
  cases nodeIndex index with
  | none => rfl
  | some i => exact if_pos h

section Checked
variable {s : State} {i : Fin 32} {address : Byte} (low : 1 ≤ address.toNat) (high : address.toNat ≤ 126)
include low high

/-- With the index and the address in range, checks 3 and 4 of NODE SET and its effects are left. -/
theorem nodeSet_of_inRange : nodeSet (nat8 i) address s =
    if s.addressTaken i address then refuse s .conflict
    else if s.nodes[i].any (s.nodeBusy i) then refuse s .busy
    else { state := s.setNode i address, status := .ok, results := [] } := by
  simp only [nodeSet, nodeIndex_nat8]
  exact if_neg (by omega)

/-- Check 3 of NODE SET. -/
theorem nodeSet_of_taken (taken : s.addressTaken i address = true) :
    nodeSet (nat8 i) address s = refuse s .conflict := by
  rw [nodeSet_of_inRange low high, if_pos taken]

/-- Check 4 of NODE SET. -/
theorem nodeSet_of_busy (clear : ¬ s.addressTaken i address = true) (busy : s.nodes[i].any (s.nodeBusy i) = true) :
    nodeSet (nat8 i) address s = refuse s .busy := by
  rw [nodeSet_of_inRange low high, if_neg clear, if_pos busy]

/-- NODE SET with every check passed. -/
theorem nodeSet_of_checked (clear : ¬ s.addressTaken i address = true)
    (unoccupied : ¬ s.nodes[i].any (s.nodeBusy i) = true) :
    nodeSet (nat8 i) address s = { state := s.setNode i address, status := .ok, results := [] } := by
  rw [nodeSet_of_inRange low high, if_neg clear, if_neg unoccupied]

end Checked

/-! ## NODE DELETE (R19) -/

/-- Check 1 of NODE DELETE. -/
theorem nodeDelete_of_index {index : Byte} (h : 31 < index.toNat) (s : State) :
    nodeDelete index s = refuse s .range := by
  rw [nodeDelete, nodeIndex_eq_none h]

/-- Check 2 of NODE DELETE. -/
theorem nodeDelete_of_free {s : State} {i : Fin 32} (free : s.nodes[i] = none) :
    nodeDelete (nat8 i) s = refuse s .noent := by
  simp only [nodeDelete, nodeIndex_nat8, free]

section InUse
variable {s : State} {i : Fin 32} {e : NodeEntry} (entry : s.nodes[i] = some e)
include entry

/-- For an entry IN USE, checks 3 and 4 of NODE DELETE and its effect are left. -/
theorem nodeDelete_of_inUse : nodeDelete (nat8 i) s =
    if s.nodeBound i then refuse s .conflict
    else if s.nodeBusy i e then refuse s .busy
    else { state := { s with nodes := s.nodes.set i none }, status := .ok, results := [] } := by
  simp only [nodeDelete, nodeIndex_nat8, entry]

/-- Check 3 of NODE DELETE. -/
theorem nodeDelete_of_bound (bound : s.nodeBound i = true) : nodeDelete (nat8 i) s = refuse s .conflict := by
  rw [nodeDelete_of_inUse entry, if_pos bound]

/-- Check 4 of NODE DELETE. -/
theorem nodeDelete_of_busy (unbound : ¬ s.nodeBound i = true) (busy : s.nodeBusy i e = true) :
    nodeDelete (nat8 i) s = refuse s .busy := by
  rw [nodeDelete_of_inUse entry, if_neg unbound, if_pos busy]

/-- NODE DELETE with every check passed. -/
theorem nodeDelete_of_checked (unbound : ¬ s.nodeBound i = true) (unoccupied : ¬ s.nodeBusy i e = true) :
    nodeDelete (nat8 i) s = { state := { s with nodes := s.nodes.set i none }, status := .ok, results := [] } := by
  rw [nodeDelete_of_inUse entry, if_neg unbound, if_neg unoccupied]

end InUse

/-! ## The statement -/

/-- Settles O42: each clause is one check, or the effects, of the command's rule, read off by the lemma for that case. -/
theorem nodesAreSetAndDeleted : Obligations.NodesAreSetAndDeleted := by
  unfold Obligations.NodesAreSetAndDeleted
  refine ⟨fun ref index address s accepts refused refused_iff => ⟨fun range => ?setRange, ?setInRange⟩,
    fun ref index s accepts refused refused_iff => ⟨fun range => ?deleteRange, ?deleteInRange⟩⟩
  case setRange =>
    refine (refused_iff _).2 (command_of_refuse accepts 0x20 ref ?_)
    obtain outside | rfl | above := range
    · exact nodeSet_of_index outside address s
    · exact nodeSet_of_address (.inl (by decide)) index s
    · exact nodeSet_of_address (.inr above) index s
  case setInRange =>
    rintro i rfl low high taken taken_iff busy busy_iff fresh rfl
    rw [← State.addressTaken_iff] at taken_iff
    rw [← State.any_nodeBusy_iff] at busy_iff
    rw [taken_iff, busy_iff]
    refine ⟨fun isTaken => ?conflict, fun clear isBusy => ?busy, fun clear free => ?free,
      fun clear unoccupied inUse => ?inUse⟩
    case conflict =>
      exact (refused_iff _).2 (command_of_refuse accepts 0x20 ref (nodeSet_of_taken low high isTaken))
    case busy =>
      exact (refused_iff _).2 (command_of_refuse accepts 0x20 ref (nodeSet_of_busy low high clear isBusy))
    case free =>
      have answer := nodeSet_of_checked low high clear (by simp [free])
      rw [State.setNode_of_free free] at answer
      exact command_of_answer accepts 0x20 ref answer
    case inUse =>
      have answer := nodeSet_of_checked low high clear unoccupied
      rw [State.setNode_of_inUse inUse] at answer
      exact command_of_answer accepts 0x20 ref answer
  case deleteRange =>
    exact (refused_iff _).2 (command_of_refuse accepts 0x21 ref (nodeDelete_of_index range s))
  case deleteInRange =>
    rintro i rfl
    refine ⟨fun free => ?free, fun e entry bound bound_iff busy busy_iff => ?_⟩
    case free =>
      exact (refused_iff _).2 (command_of_refuse accepts 0x21 ref (nodeDelete_of_free free))
    rw [← State.nodeBound_iff] at bound_iff
    rw [← State.nodeBusy_iff] at busy_iff
    rw [bound_iff, busy_iff]
    refine ⟨fun isBound => ?conflict, fun unbound isBusy => ?busy, fun unbound unoccupied => ?deleted⟩
    case conflict =>
      exact (refused_iff _).2 (command_of_refuse accepts 0x21 ref (nodeDelete_of_bound entry isBound))
    case busy =>
      exact (refused_iff _).2 (command_of_refuse accepts 0x21 ref (nodeDelete_of_busy entry unbound isBusy))
    case deleted =>
      exact command_of_answer accepts 0x21 ref (nodeDelete_of_checked entry unbound unoccupied)

end Sys2Proof.Machine
end

