-- ==== Sys2Proof/Proofs/TimingAndSchedules.lean ====
section
/-! SUPPORT. TIMING, SCHEDULE LOAD and SCHEDULE READ: which arguments name parameters or a schedule, the answer of each rule at
each check, and the two statements on these commands (R33, R35, R41, R42). -/

namespace Sys2Proof.Machine

/-! ## TIMING's parameters (R41) -/

/-- The nine values that TIMING's arguments carry, in range or not. -/
def Timing.ofArgs (args : TimingArgs) : Timing :=
  { tickDivide := args.tickDivide.toNat, cyclePeriod := args.cyclePeriod.toNat
    replyTimeout := args.replyTimeout.toNat, turnGap := args.turnGap.toNat, retryLimit := args.retryLimit.toNat
    probeInterval := args.probeInterval.toNat, deliverLimit := args.deliverLimit.toNat
    holdLimit := args.holdLimit.toNat, fieldDivide := args.fieldDivide.toNat }

/-- The upper ends of Table 2-3 that the check does not test are those of the argument's width. -/
theorem parseTiming_eq (args : TimingArgs) :
    parseTiming args = if (Timing.ofArgs args).ok then some (.ofArgs args) else none := by
  have period : args.cyclePeriod.toNat ≤ 65535 := by have := args.cyclePeriod.isLt; omega
  have probe : args.probeInterval.toNat ≤ 255 := by have := args.probeInterval.isLt; omega
  have hold : args.holdLimit.toNat ≤ 255 := by have := args.holdLimit.isLt; omega
  unfold parseTiming
  refine if_congr ?_ rfl rfl
  simp only [Timing.ok, Timing.ofArgs, period, probe, hold, and_true, and_assoc]

/-- A number taken from a two-byte field is sent as the bytes of that field. -/
@[simp] theorem nat16_toNat (w : Word16) : nat16 w.toNat = be16 w := by
  rw [nat16, BitVec.ofNat_toNat, BitVec.setWidth_eq]

/-- A number taken from a byte is sent as that byte. -/
@[simp] theorem nat8_toNat (b : Byte) : nat8 b.toNat = b := by
  rw [nat8, BitVec.ofNat_toNat, BitVec.setWidth_eq]

/-- The values taken from TIMING's arguments are sent as the argument bytes. -/
theorem Timing.ofArgs_bytes (args : TimingArgs) : (Timing.ofArgs args).bytes = timingArgsBytes args := by
  simp only [Timing.bytes, Timing.ofArgs, timingArgsBytes, nat16_toNat, nat8_toNat]

/-! ## TIMING's adjustments (R42) -/

/-- Raising a limit leaves the count; otherwise a count from `bound` on is lowered. -/
theorem underLimit_eq (old new bound lowered count : Nat) :
    underLimit old new bound lowered count =
      if old < new then count else if bound ≤ count then lowered else count := by
  by_cases raised : old < new
  · rw [if_pos raised, underLimit, if_neg (fun h => absurd h.1 (by omega))]
  · simp only [underLimit, if_neg raised, Nat.le_of_not_lt raised, true_and]

/-- Attempts against the new DeliverLimit: a payload whose count is not lowered is kept whole. -/
theorem DownPayload.limited_eq (old new : Nat) (p : DownPayload) :
    { p with attempts := underLimit old new new (new - 1) p.attempts } =
      if old < new then p else if new ≤ p.attempts then { p with attempts := new - 1 } else p := by
  rw [underLimit_eq]
  split_ifs <;> rfl

/-- The three counts of an in-use entry against their new limits. -/
theorem NodeEntry.limited_eq (old t : Timing) (e : NodeEntry) :
    e.limited old t = { e with
      retryCount := if old.retryLimit < t.retryLimit then e.retryCount
        else if t.retryLimit < e.retryCount then t.retryLimit else e.retryCount
      holdCount := if old.holdLimit < t.holdLimit then e.holdCount
        else if t.holdLimit ≤ e.holdCount then t.holdLimit - 1 else e.holdCount
      slot := e.slot.map fun (p : DownPayload) =>
        if old.deliverLimit < t.deliverLimit then p
        else if t.deliverLimit ≤ p.attempts then { p with attempts := t.deliverLimit - 1 } else p } := by
  simp only [NodeEntry.limited, DownPayload.limited_eq]
  simp only [underLimit_eq, Nat.succ_le_iff]

/-! ## TIMING's answers -/

/-- Outside HALTED the rule refuses with the values in force (R41, check 1). -/
theorem timing_of_notHalted {s : State} (engine : s.timer.engine ≠ .halted) (args : TimingArgs) :
    timing args s = { state := s, status := .state, results := s.timer.timing.bytes } := by
  rw [timing, if_pos engine]

/-- A parameter out of its range is refused with the values in force (R41, check 2). -/
theorem timing_of_notOk {s : State} (engine : s.timer.engine = .halted) {args : TimingArgs}
    (range : ¬ (Timing.ofArgs args).ok) :
    timing args s = { state := s, status := .range, results := s.timer.timing.bytes } := by
  rw [timing, if_neg (not_not_intro engine), parseTiming_eq, if_neg range]

/-- In HALTED parameters in range are taken, and the reply carries them (R41, R42). -/
theorem timing_of_ok {s : State} (engine : s.timer.engine = .halted) {args : TimingArgs}
    (ok : (Timing.ofArgs args).ok) :
    timing args s = { state := s.setTiming (.ofArgs args), status := .ok, results := timingArgsBytes args } := by
  rw [timing, if_neg (not_not_intro engine), parseTiming_eq, if_pos ok, ← Timing.ofArgs_bytes]

/-! ## The schedule's argument bytes (R33) -/

/-- The bytes of a list of node indices name that list. -/
theorem slotIndices_map_nat8 (list : List (Fin 32)) :
    slotIndices (list.map fun (i : Fin 32) => nat8 i) = some list := by
  induction list with
  | nil => rfl
  | cons i rest ih => rw [List.map_cons, slotIndices, nodeIndex_nat8, ih]

/-- One byte above 31 among the slots, and they name no list. -/
theorem slotIndices_eq_none {slots : List Byte} (above : ∃ b ∈ slots, 31 < b.toNat) : slotIndices slots = none := by
  induction slots with
  | nil => simp at above
  | cons b rest ih =>
    simp only [List.mem_cons, exists_eq_or_imp] at above
    rw [slotIndices]
    obtain first | later := above
    · rw [nodeIndex_eq_none first]
    · rw [ih later]
      cases nodeIndex b <;> rfl

/-! ## SCHEDULE LOAD's answers (R33) -/

/-- A slot count other than the number of indices given (R33, check 1). -/
theorem scheduleLoad_of_mismatch {count : Byte} {slots : List Byte} (mismatch : slots.length ≠ count.toNat) (s : State) :
    scheduleLoad count slots s = refuse s .format := by
  rw [scheduleLoad, if_pos mismatch]

/-- A slot count above 64, or an index above 31 (R33, checks 2 and 3). -/
theorem scheduleLoad_of_range {count : Byte} {slots : List Byte} (length : slots.length = count.toNat)
    (range : 64 < count.toNat ∨ ∃ b ∈ slots, 31 < b.toNat) (s : State) :
    scheduleLoad count slots s = refuse s .range := by
  rw [scheduleLoad, if_neg (not_not_intro length)]
  by_cases many : Config.scheduleSlots < count.toNat
  · rw [if_pos many]
  · rw [if_neg many, slotIndices_eq_none (range.resolve_left many)]

/-- With every check passed the list given becomes the pending schedule (R33). -/
theorem scheduleLoad_of_checked {count : Byte} {list : List (Fin 32)}
    (length : (list.map fun (i : Fin 32) => nat8 i).length = count.toNat) (bound : count.toNat ≤ 64) (s : State) :
    scheduleLoad count (list.map fun (i : Fin 32) => nat8 i) s =
      { state := { s with sched := { s.sched with pending := some list } }, status := .ok, results := [] } := by
  have few : ¬ Config.scheduleSlots < count.toNat := Nat.not_lt.2 bound
  rw [scheduleLoad, if_neg (not_not_intro length), if_neg few, slotIndices_map_nat8]

/-! ## SCHEDULE READ's answers (R35) -/

/-- Selector 0 reads the active schedule. -/
theorem scheduleRead_active (s : State) :
    scheduleRead 0 s =
      { state := s, status := .ok, results := scheduleBytes s.sched.active (nat8 s.sched.position) s.timer.engine.code } :=
  if_pos rfl

/-- Selector 1 reads the pending schedule, when there is one. -/
theorem scheduleRead_pending {s : State} {list : List (Fin 32)} (pending : s.sched.pending = some list) :
    scheduleRead 1 s = { state := s, status := .ok, results := scheduleBytes list 0 0 } := by
  rw [scheduleRead, if_neg (by decide), if_pos rfl, pending]

/-- Selector 1 without a pending schedule. -/
theorem scheduleRead_noPending {s : State} (pending : s.sched.pending = none) :
    scheduleRead 1 s = refuse s .noent := by
  rw [scheduleRead, if_neg (by decide), if_pos rfl, pending]

/-- A selector above 1 names no schedule. -/
theorem scheduleRead_of_range {selector : Byte} (above : 1 < selector.toNat) (s : State) :
    scheduleRead selector s = refuse s .range := by
  have ne0 : selector ≠ 0 := by rintro rfl; exact absurd above (by decide)
  have ne1 : selector ≠ 1 := by rintro rfl; exact absurd above (by decide)
  rw [scheduleRead, if_neg ne0, if_neg ne1]

/-! ## The statements -/

/-- Settles O40: each outcome is the rule's answer at that check, and the adjustments of R42 are those of one entry, by
`NodeEntry.limited_eq`. -/
theorem timingReplacesParameters : Obligations.TimingReplacesParameters := by
  unfold Obligations.TimingReplacesParameters
  refine ⟨fun t => by simp only [Timing.ok, and_assoc], ?_⟩
  rintro ref args s _ _ accepts rfl rfl
  refine ⟨fun engine => ?state, fun engine range => ?range, fun engine ok => ?taken⟩
  case state => exact command_of_answer accepts 0x10 ref (timing_of_notHalted engine args)
  case range => exact command_of_answer accepts 0x10 ref (timing_of_notOk engine range)
  case taken =>
    have answer := timing_of_ok engine ok
    rw [State.setTiming, funext (NodeEntry.limited_eq s.timer.timing (.ofArgs args))] at answer
    exact command_of_answer accepts 0x10 ref answer

/-- Settles O41: each clause is one outcome of R33 or of R35. -/
theorem schedulesAreLoadedAndRead : Obligations.SchedulesAreLoadedAndRead := by
  unfold Obligations.SchedulesAreLoadedAndRead
  refine ⟨fun ref count slots s accepts => ⟨fun mismatch => ?format, fun length range => ?loadRange, ?loaded⟩,
    fun ref selector s accepts => ⟨?active, ?pending, ?noPending, fun above => ?readRange⟩⟩
  case format => exact command_of_refuse accepts 0x13 ref (scheduleLoad_of_mismatch mismatch s)
  case loadRange => exact command_of_refuse accepts 0x13 ref (scheduleLoad_of_range length range s)
  case loaded =>
    rintro list rfl length bound
    exact command_of_answer accepts 0x13 ref (scheduleLoad_of_checked length bound s)
  case active =>
    rintro rfl
    exact command_of_answer accepts 0x14 ref (scheduleRead_active s)
  case pending =>
    rintro list rfl pending
    exact command_of_answer accepts 0x14 ref (scheduleRead_pending pending)
  case noPending =>
    rintro rfl pending
    exact command_of_refuse accepts 0x14 ref (scheduleRead_noPending pending)
  case readRange => exact command_of_refuse accepts 0x14 ref (scheduleRead_of_range above s)

end Sys2Proof.Machine
end

