-- ==== Sys2Proof/Proofs/StreamEnableDisableDelete.lean ====
section
/-! SUPPORT. STREAM ENABLE, STREAM DISABLE and STREAM DELETE: what a stream put aside keeps, the answer of each rule in each
state of the stream, and the statement on the three commands (R71, R72, R73). -/

namespace Sys2Proof.Machine

/-! ## The stream's number and its node -/

/-- A byte above 63 names no stream. -/
theorem streamIndex_eq_none {b : Byte} (above : 63 < b.toNat) : streamIndex b = none := by
  rw [streamIndex, dif_neg (by omega)]

/-- The byte of a stream's number names it. -/
@[simp] theorem streamIndex_nat8 (i : Fin 64) : streamIndex (nat8 i) = some i := by
  have value : (nat8 i).toNat = i := by
    rw [nat8, BitVec.toNat_ofNat]
    exact Nat.mod_eq_of_lt (by omega)
  simp [streamIndex, value]

/-- A node is DOWN when an entry IN USE holds it so; a FREE one is not (R71). -/
theorem State.nodeDown_iff {s : State} {node : Fin 32} :
    s.nodeDown node = true ↔ ∃ e, s.nodes[node] = some e ∧ e.state = .down := by
  unfold State.nodeDown
  cases s.nodes[node] <;> simp

/-- The state in which STREAM ENABLE restarts a stream of the node (R71). -/
def State.enabledState (s : State) (node : Fin 32) : StreamState :=
  if s.nodeDown node then .suspended else .active

theorem State.enabledState_of_down {s : State} {node : Fin 32}
    (down : ∃ e, s.nodes[node] = some e ∧ e.state = .down) : s.enabledState node = .suspended :=
  if_pos (State.nodeDown_iff.2 down)

theorem State.enabledState_of_notDown {s : State} {node : Fin 32}
    (up : ¬ ∃ e, s.nodes[node] = some e ∧ e.state = .down) : s.enabledState node = .active :=
  if_neg (mt State.nodeDown_iff.1 up)

/-! ## A stream put aside (R72, R75) -/

/-- In INSIDE only the window is given up. -/
theorem StreamCtx.setAside_of_inside {c : StreamCtx} (inside : c.run.cmpState = .inside) (state : StreamState) :
    c.setAside state = { c with state := state, run := c.run.emptyWindow } := by
  rw [StreamCtx.setAside, StreamRun.endTrip, inside]

/-- A standing trip is ended too, with its count and its direction (R111). -/
theorem StreamCtx.setAside_of_trip {c : StreamCtx} (trip : c.run.cmpState ≠ .inside) (state : StreamState) :
    c.setAside state = { c with
      state := state
      run := { c.run.emptyWindow with cmpState := .inside, beyondCount := 0, beyondDir := none } } := by
  rw [StreamCtx.setAside, StreamRun.endTrip]
  cases standing : c.run.cmpState with
  | inside => exact absurd standing trip
  | above => rfl
  | below => rfl

/-- In INSIDE no trip stands to be released. -/
theorem StreamRun.releaseFor_of_inside {r : StreamRun} (inside : r.cmpState = .inside) (i : Fin 64)
    (cause : ReleaseCause) : r.releaseFor i cause = [] := by
  rw [StreamRun.releaseFor, inside]

/-- A standing trip is released in its direction, with value 0 (R111). -/
theorem StreamRun.releaseFor_of_trip {r : StreamRun} {dir : Direction}
    (trip : (r.cmpState = .above ∧ dir = .high) ∨ (r.cmpState = .below ∧ dir = .low)) (i : Fin 64)
    (cause : ReleaseCause) : r.releaseFor i cause = [.add (.release i dir cause 0)] := by
  rw [StreamRun.releaseFor]
  obtain ⟨above, rfl⟩ | ⟨below, rfl⟩ := trip
  · rw [above]
  · rw [below]

/-! ## A number above 63, and an UNUSED stream -/

section Above
variable {number : Byte} (above : 63 < number.toNat) (s : State)
include above

theorem streamEnable_of_above : streamEnable number s = refuse s .range := by
  rw [streamEnable, streamIndex_eq_none above]

theorem streamDisable_of_above : streamDisable number s = refuse s .range := by
  rw [streamDisable, streamIndex_eq_none above]

theorem streamDelete_of_above : streamDelete number s = refuse s .range := by
  rw [streamDelete, streamIndex_eq_none above]

end Above

section Unused
variable {s : State} {i : Fin 64} (unused : s.streams[i] = none)
include unused

theorem streamEnable_of_unused : streamEnable (nat8 i) s = refuse s .state := by
  simp only [streamEnable, streamIndex_nat8, unused]

theorem streamDisable_of_unused : streamDisable (nat8 i) s = refuse s .state := by
  simp only [streamDisable, streamIndex_nat8, unused]

theorem streamDelete_of_unused : streamDelete (nat8 i) s = refuse s .state := by
  simp only [streamDelete, streamIndex_nat8, unused]

end Unused

/-! ## An IDLE stream, and an ACTIVE or SUSPENDED one -/

section Used
variable {s : State} {i : Fin 64} {c : StreamCtx} (stream : s.streams[i] = some c)
include stream

/-- An IDLE stream is restarted, in the state its node gives it (R71). -/
theorem streamEnable_of_idle (idle : c.state = .idle) :
    streamEnable (nat8 i) s =
      { state := s.setStream i (some (c.restarted (s.enabledState c.config.node))), status := .ok
        results := [(s.enabledState c.config.node).code] } := by
  simp only [streamEnable, streamIndex_nat8, stream, if_pos idle]
  rfl

theorem streamEnable_of_running (running : c.state ≠ .idle) : streamEnable (nat8 i) s = refuse s .state := by
  simp only [streamEnable, streamIndex_nat8, stream, if_neg running]

/-- An IDLE stream is left as it is (R72). -/
theorem streamDisable_of_idle (idle : c.state = .idle) :
    streamDisable (nat8 i) s = { state := s, status := .ok, results := [] } := by
  simp only [streamDisable, streamIndex_nat8, stream, if_pos idle]

/-- An ACTIVE or SUSPENDED stream is put aside, IDLE, and its standing trip released (R72). -/
theorem streamDisable_of_running (running : c.state ≠ .idle) :
    streamDisable (nat8 i) s =
      { state := (s.setStream i (some (c.setAside .idle))).emit (c.run.releaseFor i .disable), status := .ok
        results := [] } := by
  simp only [streamDisable, streamIndex_nat8, stream, if_neg running]

/-- An IDLE stream becomes UNUSED (R73). -/
theorem streamDelete_of_idle (idle : c.state = .idle) :
    streamDelete (nat8 i) s = { state := s.setStream i none, status := .ok, results := [] } := by
  simp only [streamDelete, streamIndex_nat8, stream, if_pos idle]

theorem streamDelete_of_running (running : c.state ≠ .idle) : streamDelete (nat8 i) s = refuse s .state := by
  simp only [streamDelete, streamIndex_nat8, stream, if_neg running]

end Used

/-! ## The statement -/

/-- Settles O47: the states of a stream are told apart as the rules tell them apart, and each clause is one rule's answer
there; for a running stream STREAM DISABLE depends on the comparator's state as well. -/
theorem streamsAreEnabledDisabledDeleted : Obligations.StreamsAreEnabledDisabledDeleted := by
  unfold Obligations.StreamsAreEnabledDisabledDeleted
  refine fun ref number s accepts => ⟨fun above => ?above, ?_⟩
  case above =>
    exact ⟨command_of_refuse accepts 0x31 ref (streamEnable_of_above above s),
      command_of_refuse accepts 0x32 ref (streamDisable_of_above above s),
      command_of_refuse accepts 0x33 ref (streamDelete_of_above above s)⟩
  rintro i rfl
  refine ⟨fun unused => ?unused, fun c stream => ⟨fun idle => ?idle, fun running => ?running⟩⟩
  case unused =>
    exact ⟨command_of_refuse accepts 0x31 ref (streamEnable_of_unused unused),
      command_of_refuse accepts 0x32 ref (streamDisable_of_unused unused),
      command_of_refuse accepts 0x33 ref (streamDelete_of_unused unused)⟩
  case idle =>
    refine ⟨s.enabledState c.config.node, (s.enabledState c.config.node).code, fun down => ?_, fun up => ?_,
      command_of_answer accepts 0x31 ref (streamEnable_of_idle stream idle),
      command_of_answer accepts 0x32 ref (streamDisable_of_idle stream idle),
      command_of_answer accepts 0x33 ref (streamDelete_of_idle stream idle)⟩
    · rw [State.enabledState_of_down down]
      exact ⟨rfl, rfl⟩
    · rw [State.enabledState_of_notDown up]
      exact ⟨rfl, rfl⟩
  case running =>
    refine ⟨command_of_refuse accepts 0x31 ref (streamEnable_of_running stream running),
      command_of_refuse accepts 0x33 ref (streamDelete_of_running stream running), ?_⟩
    rintro _ rfl put put_eq
    have answer := streamDisable_of_running stream running
    refine ⟨fun inside => ?inside, ?trip⟩
    case inside =>
      rw [StreamCtx.setAside_of_inside inside, StreamRun.releaseFor_of_inside inside] at answer
      rw [put_eq]
      exact command_of_answer accepts 0x32 ref answer
    case trip =>
      rintro _ dir trip rfl
      have standing : c.run.cmpState ≠ .inside := by
        obtain ⟨above, _⟩ | ⟨below, _⟩ := trip
        · simp [above]
        · simp [below]
      rw [StreamCtx.setAside_of_trip standing, StreamRun.releaseFor_of_trip trip] at answer
      rw [put_eq]
      exact command_of_answer accepts 0x32 ref answer

end Sys2Proof.Machine
end

