-- ==== Sys2Proof/Proofs/FilterOutput.lean ====
section
/-! SUPPORT. The weights of a filter: the listed weights are the numbers of ordered sums of R88, and these are the coefficients
of the k-th power of 1 + X + … + X^(R−1), from which their symmetry and their sum are read; with the equations of one input
taken, the statement on a filter's output (R87, R88, R89). -/

namespace Sys2Proof.Machine

/-! ## The weights of the definition as coefficients (R88) -/

/-- The polynomial 1 + X + … + X^(r−1), one term for each choice of a whole number in 0..R−1. -/
noncomputable def ratioPoly (r : Nat) : Polynomial ℕ := ∑ i ∈ Finset.range r, Polynomial.X ^ i

theorem coeff_ratioPoly (r j : Nat) : (ratioPoly r).coeff j = if j < r then 1 else 0 := by
  simp [ratioPoly, Polynomial.coeff_X_pow]

theorem natDegree_ratioPoly_le (r : Nat) : (ratioPoly r).natDegree ≤ r - 1 := by
  refine Polynomial.natDegree_le_iff_coeff_eq_zero.2 fun j above => ?_
  rw [coeff_ratioPoly, if_neg (by omega)]

theorem natDegree_ratioPoly_pow_le (k r : Nat) : (ratioPoly r ^ k).natDegree ≤ k * (r - 1) :=
  Polynomial.natDegree_pow_le_of_le k (natDegree_ratioPoly_le r)

/-- Choosing the first of `k + 1` whole numbers is one factor of the power. -/
theorem coeff_ratioPoly_mul (r j : Nat) (p : Polynomial ℕ) :
    (ratioPoly r * p).coeff j = ∑ i ∈ Finset.range r, if i ≤ j then p.coeff (j - i) else 0 := by
  simp only [ratioPoly, Finset.sum_mul, Polynomial.finsetSum_coeff, Polynomial.coeff_X_pow_mul']

theorem filterWays_eq_coeff (k r j : Nat) : filterWays k r j = (ratioPoly r ^ k).coeff j := by
  induction k generalizing j with
  | zero => rw [filterWays, pow_zero, Polynomial.coeff_one]
  | succ k ih =>
    rw [pow_succ', coeff_ratioPoly_mul, filterWays]
    simp only [ih]
    rfl

/-! ## Their symmetry and their sum (R88) -/

theorem reflect_ratioPoly {r : Nat} (pos : 1 ≤ r) : (ratioPoly r).reflect (r - 1) = ratioPoly r := by
  ext j
  rw [Polynomial.coeff_reflect]
  obtain within | beyond := le_or_gt j (r - 1)
  · rw [Polynomial.revAt_le within, coeff_ratioPoly, coeff_ratioPoly, if_pos (by omega), if_pos (by omega)]
  · rw [Polynomial.revAt_eq_self_of_lt beyond]

theorem reflect_ratioPoly_pow {r : Nat} (pos : 1 ≤ r) (k : Nat) :
    (ratioPoly r ^ k).reflect (k * (r - 1)) = ratioPoly r ^ k := by
  induction k with
  | zero => rw [Nat.zero_mul, pow_zero, Polynomial.reflect_one, pow_zero]
  | succ k ih =>
    rw [Nat.succ_mul, pow_succ, Polynomial.reflect_mul _ _ (natDegree_ratioPoly_pow_le k r) (natDegree_ratioPoly_le r),
      ih, reflect_ratioPoly pos]

/-- The weights read the same from either end of the window. -/
theorem filterWays_symm {k r j : Nat} (pos : 1 ≤ r) (within : j ≤ k * (r - 1)) :
    filterWays k r j = filterWays k r (k * (r - 1) - j) := by
  rw [filterWays_eq_coeff, filterWays_eq_coeff, ← Polynomial.revAt_le within, ← Polynomial.coeff_reflect,
    reflect_ratioPoly_pow pos]

/-- The sum of the weights is the value of the power at 1. -/
theorem sum_filterWays (k r : Nat) : ((List.range (k * (r - 1) + 1)).map (filterWays k r)).sum = r ^ k := by
  calc ((List.range (k * (r - 1) + 1)).map (filterWays k r)).sum
      = ∑ j ∈ Finset.range (k * (r - 1) + 1), filterWays k r j := rfl
    _ = (ratioPoly r ^ k).eval 1 := by
        simp [Polynomial.eval_eq_sum_range' (Nat.lt_succ_of_le (natDegree_ratioPoly_pow_le k r)), filterWays_eq_coeff]
    _ = r ^ k := by simp [ratioPoly, Polynomial.eval_finsetSum]

/-! ## The listed weights are those of the definition -/

theorem addWeights_nil_right (as : List Nat) : addWeights as [] = as := by
  cases as <;> rfl

theorem length_addWeights (as bs : List Nat) : (addWeights as bs).length = max as.length bs.length := by
  induction as, bs using addWeights.induct with
  | case1 bs => simp [addWeights]
  | case2 as => simp [addWeights_nil_right]
  | case3 a as b bs ih => simp [addWeights, ih]

theorem getD_addWeights (as bs : List Nat) (j : Nat) :
    (addWeights as bs).getD j 0 = as.getD j 0 + bs.getD j 0 := by
  induction as, bs using addWeights.induct generalizing j with
  | case1 bs => simp [addWeights]
  | case2 as => simp [addWeights_nil_right]
  | case3 a as b bs ih =>
    cases j with
    | zero => simp [addWeights]
    | succ j => simpa [addWeights] using ih j

/-- The place `j` of a running sum takes from each copy what stands its delay before `j`. -/
theorem getD_runningSum (n : Nat) (ws : List Nat) (j : Nat) :
    (runningSum n ws).getD j 0 = ((List.range n).map fun i => if i ≤ j then ws.getD (j - i) 0 else 0).sum := by
  induction n generalizing j with
  | zero => simp [runningSum]
  | succ n ih =>
    rw [runningSum, getD_addWeights, List.sum_range_succ']
    cases j with
    | zero => simp
    | succ j => simpa using ih j

theorem length_runningSum (n : Nat) {ws : List Nat} (nonempty : 1 ≤ ws.length) :
    (runningSum (n + 1) ws).length = ws.length + n := by
  induction n with
  | zero => simp [runningSum, length_addWeights, nonempty]
  | succ n ih =>
    rw [runningSum, length_addWeights, List.length_cons, ih]
    omega

theorem getD_filterWeights (k r j : Nat) : (filterWeights k r).getD j 0 = filterWays k r j := by
  induction k generalizing j with
  | zero => cases j <;> simp [filterWeights, filterWays]
  | succ k ih => simp only [filterWeights, getD_runningSum, ih, filterWays]

theorem length_filterWeights (k : Nat) {r : Nat} (pos : 1 ≤ r) :
    (filterWeights k r).length = k * (r - 1) + 1 := by
  induction k with
  | zero => simp [filterWeights]
  | succ k ih =>
    obtain ⟨n, rfl⟩ : ∃ n, r = n + 1 := ⟨r - 1, by omega⟩
    rw [filterWeights, length_runningSum n (by omega), ih, Nat.succ_mul]
    omega

/-! ## The weighted sum of a window -/

/-- A window's places beyond its end count as 0. -/
theorem weightedSum_eq_sum (ws : List Nat) (xs : List Int) :
    weightedSum ws xs = ((List.range ws.length).map fun j => (ws.getD j 0 : Int) * xs.getD j 0).sum := by
  induction ws, xs using weightedSum.induct with
  | case1 w ws x xs ih =>
    rw [weightedSum, ih, List.length_cons, List.sum_range_succ']
    simp
  | case2 ws xs short =>
    cases ws with
    | nil => rfl
    | cons w ws =>
      cases xs with
      | nil => simp [weightedSum]
      | cons x xs => exact (short w ws x xs rfl rfl).elim

/-- The weighted sum by which a filter makes its output is that of R88. -/
theorem weightedSum_filterWeights (k : Nat) {r : Nat} (pos : 1 ≤ r) (window : List Int) :
    weightedSum (filterWeights k r) window =
      ((List.range (k * (r - 1) + 1)).map fun j => (filterWays k r j : Int) * window.getD j 0).sum := by
  simp only [weightedSum_eq_sum, length_filterWeights k pos, getD_filterWeights]

/-- With R = 1 the window is one input long and its only weight is 1. -/
theorem weightedSum_filterWeights_one (k : Nat) (x : Int) (history : List Int) :
    weightedSum (filterWeights k 1) (x :: history) = x := by
  have weight : filterWays k 1 0 = 1 := by simpa using sum_filterWays k 1
  simp [weightedSum_filterWeights k le_rfl, weight]

/-! ## One input taken (R87, R89) -/

/-- Before the R-th input since the last output the phase advances and no output is made. -/
theorem FilterState.push_of_lt {f : FilterState} {r : Nat} (before : f.phase + 1 < r) (k : Nat) (x : Int) :
    f.push k r x = ({ history := (x :: f.history).take (k * (r - 1)), phase := f.phase + 1 }, none) :=
  if_pos before

/-- The R-th input since the last output makes an output, and the phase starts again. -/
theorem FilterState.push_of_eq {f : FilterState} {r : Nat} (last : f.phase + 1 = r) (k : Nat) (x : Int) :
    f.push k r x = ({ history := (x :: f.history).take (k * (r - 1)), phase := 0 },
      some (weightedSum (filterWeights k r) (x :: f.history))) :=
  if_neg (by omega)

/-! ## The statement -/

/-- Settles O27: the two cases of an input are the equations of `FilterState.push`, whose listed weights are the numbers of
ordered sums; the symmetry and the sum of these are those of the coefficients of a power of 1 + X + … + X^(R−1). -/
theorem filterOutputIsWeightedSum : Obligations.FilterOutputIsWeightedSum := by
  unfold Obligations.FilterOutputIsWeightedSum
  refine ⟨fun f k r x _ pos _ phase => ⟨_, rfl, fun before => ?advance, fun last => ?output, ?unit⟩,
    fun k r j pos within => filterWays_symm pos within, fun k r _ => sum_filterWays k r⟩
  case advance => exact FilterState.push_of_lt before k x
  case output => rw [FilterState.push_of_eq last, weightedSum_filterWeights k pos]
  case unit =>
    rintro rfl
    rw [FilterState.push_of_eq (by omega), weightedSum_filterWeights_one]

end Sys2Proof.Machine
end

