-- ==== Sys2Proof/Proofs/WindowComparator.lean ====
section
/-! SUPPORT. The window comparator: what an output does in each comparator state, the count in a direction and the trip that
completes it, the level of a release, and the statements on the two (R106, R107, R108, R109, R110). -/

namespace Sys2Proof.Machine

section Output
variable {r : StreamRun} {m : ComparatorConfig} {out : Int} (i : Fin 64)

/-! ## An output judged in INSIDE (R106) -/

theorem StreamRun.compared_of_inside (inside : r.cmpState = .inside) : r.compared i m out = r.judge i m out := by
  rw [StreamRun.compared, inside]

/-- An output equal to a limit is within the limits and clears the count. -/
theorem StreamRun.judge_of_within (notBelow : m.low ≤ out) (notAbove : out ≤ m.high) :
    r.judge i m out = ({ r with beyondCount := 0, beyondDir := none }, []) := by
  rw [StreamRun.judge, if_neg (by omega), if_neg (by omega)]

theorem StreamRun.judge_of_aboveHigh (above : m.high < out) : r.judge i m out = r.beyond i m .high out :=
  if_pos above

/-- High is looked at first, so that the order of the limits counts here: below Low is then not above High. -/
theorem StreamRun.judge_of_belowLow (ordered : m.low < m.high) (below : out < m.low) :
    r.judge i m out = r.beyond i m .low out := by
  rw [StreamRun.judge, if_neg (by omega), if_pos below]

/-! ## The count in a direction, and the trip (R106, R107) -/

/-- BeyondCount after one more output beyond the limit of a direction: from 1 when the direction changes. -/
def StreamRun.countBeyond (r : StreamRun) (dir : Direction) : Nat :=
  if r.beyondDir = some dir then r.beyondCount + 1 else 1

/-- The state in which a trip of a direction stands. -/
def Direction.tripped : Direction → ComparatorState
  | .high => .above
  | .low => .below

theorem StreamRun.beyond_of_lt {dir : Direction} (before : r.countBeyond dir < m.tripCount) :
    r.beyond i m dir out = ({ r with beyondCount := r.countBeyond dir, beyondDir := some dir }, []) :=
  if_neg (Nat.not_le.2 before)

theorem StreamRun.beyond_of_le {dir : Direction} (reached : m.tripCount ≤ r.countBeyond dir) :
    r.beyond i m dir out = ({ r with cmpState := dir.tripped, beyondCount := 0, beyondDir := none },
      [.add (.trip i dir out), .raise .trip]) := by
  calc r.beyond i m dir out
      = r.trip i dir out := if_pos reached
    _ = _ := by cases dir <;> rfl

/-! ## An output while a trip stands (R108, R109, R110) -/

theorem StreamRun.compared_of_above_stands (above : r.cmpState = .above) (short : m.high - m.hysteresis < out) :
    r.compared i m out = (r, []) := by
  simp only [StreamRun.compared, above]
  exact if_neg (by omega)

theorem StreamRun.compared_of_above_released (above : r.cmpState = .above) (level : out ≤ m.high - m.hysteresis) :
    r.compared i m out = r.releasedBy i m .high out := by
  simp only [StreamRun.compared, above]
  exact if_pos level

theorem StreamRun.compared_of_below_stands (below : r.cmpState = .below) (short : out < m.low + m.hysteresis) :
    r.compared i m out = (r, []) := by
  simp only [StreamRun.compared, below]
  exact if_neg (by omega)

theorem StreamRun.compared_of_below_released (below : r.cmpState = .below) (level : m.low + m.hysteresis ≤ out) :
    r.compared i m out = r.releasedBy i m .low out := by
  simp only [StreamRun.compared, below]
  exact if_pos level

/-- The releasing output is one of the stream in INSIDE, after the RELEASE. -/
theorem StreamRun.releasedBy_eq_compared (dir : Direction) : r.releasedBy i m dir out =
    (({ r with cmpState := .inside }.compared i m out).1,
      .add (.release i dir .level out) :: ({ r with cmpState := .inside }.compared i m out).2) := by
  rw [StreamRun.compared_of_inside i rfl]
  rfl

end Output

/-! ## The statements -/

/-- Settles O31: beyond a limit the output is handed to the count of its direction, and the two sizes of that count are the two
equations of `StreamRun.beyond`. -/
theorem comparatorCountsAndTrips : Obligations.ComparatorCountsAndTrips := by
  unfold Obligations.ComparatorCountsAndTrips
  intro r i m out inside ordered
  rw [StreamRun.compared_of_inside i inside]
  refine ⟨fun notBelow notAbove => StreamRun.judge_of_within i notBelow notAbove, ?beyond⟩
  rintro dir state _ side rfl
  obtain ⟨handed, rfl⟩ : r.judge i m out = r.beyond i m dir out ∧ state = dir.tripped := by
    obtain ⟨rfl, rfl, above⟩ | ⟨rfl, rfl, below⟩ := side
    · exact ⟨StreamRun.judge_of_aboveHigh i above, rfl⟩
    · exact ⟨StreamRun.judge_of_belowLow i ordered below, rfl⟩
  rw [handed]
  exact ⟨fun before => StreamRun.beyond_of_lt i before, fun reached => StreamRun.beyond_of_le i reached, rfl⟩

/-- Settles O32: an output short of the level changes nothing, and one that releases is judged as an output in INSIDE. -/
theorem comparatorReleasesAtLevel : Obligations.ComparatorReleasesAtLevel := by
  unfold Obligations.ComparatorReleasesAtLevel
  intro r i m out
  refine ⟨fun above short => StreamRun.compared_of_above_stands i above short,
    fun below short => StreamRun.compared_of_below_stands i below short, ?released⟩
  rintro _ rfl
  refine ⟨fun above level => ?high, fun below level => ?low⟩
  case high => rw [StreamRun.compared_of_above_released i above level, StreamRun.releasedBy_eq_compared]
  case low => rw [StreamRun.compared_of_below_released i below level, StreamRun.releasedBy_eq_compared]

end Sys2Proof.Machine
end

