-- ==== Sys2Proof/Proofs/IntegratorSum.lean ====
section
/-! SUPPORT. The integrator's addition: a 16-bit count below its end and at it, the total inside and outside the signed 32-bit
range, and the statement on the addition and the overflow (R120). -/

namespace Sys2Proof.Machine

/-! ## A 16-bit saturating count -/

/-- Below 65535 the word's own addition does not wrap. -/
theorem bump_toNat_of_lt {count : Word16} (below : count.toNat < 65535) : (bump count).toNat = count.toNat + 1 := by
  have notAtEnd : count ≠ 0xFFFF := by
    rintro rfl
    exact absurd below (by decide)
  rw [bump, if_neg notAtEnd]
  exact BitVec.toNat_add_of_lt (by change count.toNat + 1 < 65536; omega)

theorem bump_of_toNat_eq {count : Word16} (atEnd : count.toNat = 65535) : bump count = count :=
  if_pos (BitVec.eq_of_toNat_eq atEnd)

/-! ## The signed 32-bit range, and an output added (R120) -/

theorem inRange32_iff (v : Int) : inRange32 v = true ↔ -2147483648 ≤ v ∧ v ≤ 2147483647 := by
  rw [inRange32, Bool.and_eq_true, decide_eq_true_iff, decide_eq_true_iff]

section Output
variable {r : StreamRun} {out : Int}

theorem StreamRun.addOutput_of_inRange (inside : inRange32 (r.sum + out) = true) : r.addOutput out =
    ({ r with sum := r.sum + out, sumCount := bump r.sumCount, windowCount := bump r.windowCount }, []) :=
  if_pos inside

theorem StreamRun.addOutput_of_not_inRange (outside : ¬ inRange32 (r.sum + out) = true) : r.addOutput out =
    ({ r with sum := out, sumCount := 1, overflow := true, windowCount := bump r.windowCount },
      [.raise .saturate]) :=
  if_neg outside

/-- Whatever Sum held before: the new Sum is a total found in the range, or the output alone. -/
theorem StreamRun.addOutput_sum_inRange (output : inRange32 out = true) : inRange32 (r.addOutput out).1.sum = true := by
  by_cases inside : inRange32 (r.sum + out) = true
  · rw [StreamRun.addOutput_of_inRange inside]
    exact inside
  · rw [StreamRun.addOutput_of_not_inRange inside]
    exact output

end Output

/-! ## The statement -/

/-- Settles O29: the total in the range and the total outside it are the two equations of `StreamRun.addOutput`. -/
theorem integratorAddsOrOverflows : Obligations.IntegratorAddsOrOverflows := by
  unfold Obligations.IntegratorAddsOrOverflows
  refine ⟨fun count => ⟨bump_toNat_of_lt, bump_of_toNat_eq⟩, ?addition⟩
  rintro r out _ rfl
  refine ⟨fun low high => ?added, fun beyond => ?overflow, fun low high => ?kept⟩
  case added => exact StreamRun.addOutput_of_inRange ((inRange32_iff _).2 ⟨low, high⟩)
  case overflow =>
    refine StreamRun.addOutput_of_not_inRange ?_
    rw [inRange32_iff]
    omega
  case kept => exact (inRange32_iff _).1 (StreamRun.addOutput_sum_inRange ((inRange32_iff _).2 ⟨low, high⟩))

end Sys2Proof.Machine
end

/-! SUPPORT. FORWARD and CANCEL: the entry each of them changes, the answer of each rule at each check, and the statement that
both commands have their checks in order and their effects (R152, R153). -/

namespace Sys2Proof.Machine

/-! ## The entry changed -/

/-- An entry known to be IN USE is changed in its place. -/
theorem State.modifyNode_of_inUse {s : State} {i : Fin 32} {e : NodeEntry} (entry : s.nodes[i] = some e)
    (f : NodeEntry → NodeEntry) : s.modifyNode i f = { s with nodes := s.nodes.set i (some (f e)) } := by
  rw [State.modifyNode, entry, Option.map_some]

/-- An entry holds a payload or awaits a resynchronisation, so that FORWARD cannot use its slot (R152, check 5). -/
theorem NodeEntry.slotTaken_iff {e : NodeEntry} :
    (e.slot.isSome = true ∨ e.resync.isSome = true) ↔ (e.slot ≠ none ∨ e.resync ≠ none) := by
  rw [Option.isSome_iff_ne_none, Option.isSome_iff_ne_none]

/-- A cancelled payload leaves its slot; once it was attempted, whether the node took it is uncertain (R153). -/
theorem NodeEntry.emptySlot_of_attempts (e : NodeEntry) (p : DownPayload) :
    e.emptySlot p (0 < p.attempts) =
      { e with slot := none, resync := if 0 < p.attempts then some p.tag else e.resync } := by
  simp only [NodeEntry.emptySlot, decide_eq_true_eq]

/-- The payload cancelled is reported, and the DELIVERY flag raised with it (R153). -/
theorem State.resolve_cancelled {s : State} {i : Fin 32} {e : NodeEntry} (entry : s.nodes[i] = some e)
    (p : DownPayload) :
    s.resolve i p .cancelled (0 < p.attempts) =
      { s with nodes := s.nodes.set i (some { e with
          slot := none, resync := if 0 < p.attempts then some p.tag else e.resync }) }.emit
        [.add (.delivery i p.tag .cancelled p.attempts), .raise .delivery] := by
  rw [State.resolve, State.modifyNode_of_inUse entry, NodeEntry.emptySlot_of_attempts, deliveryEffects]

/-! ## FORWARD (R152) -/

/-- Check 1 of FORWARD. -/
theorem forward_of_index {index : Byte} (above : 31 < index.toNat) (tag : Word16) (payload : List Byte) (s : State) :
    forward index tag payload s = refuse s .range := by
  rw [forward, nodeIndex_eq_none above]

/-- Check 2 of FORWARD. -/
theorem forward_of_free {s : State} {i : Fin 32} (free : s.nodes[i] = none) (tag : Word16) (payload : List Byte) :
    forward (nat8 i) tag payload s = refuse s .noent := by
  simp only [forward, nodeIndex_nat8, free]

section Forward
variable {s : State} {i : Fin 32} {e : NodeEntry} (entry : s.nodes[i] = some e) (tag : Word16) {payload : List Byte}
include entry

/-- Check 3 of FORWARD. -/
theorem forward_of_length (length : payload.length = 0 ∨ 64 < payload.length) :
    forward (nat8 i) tag payload s = refuse s .range := by
  simp only [forward, nodeIndex_nat8, entry]
  exact if_pos length

section Fits
variable (nonempty : 1 ≤ payload.length) (fits : payload.length ≤ 64)
include nonempty fits

/-- For an entry IN USE and a payload of 1 to 64 bytes, checks 4 and 5 of FORWARD and its effect are left. -/
theorem forward_of_fits : forward (nat8 i) tag payload s =
    if e.state = .down then refuse s .state
    else if e.slot.isSome ∨ e.resync.isSome then refuse s .busy
    else
      { state := { s with nodes := s.nodes.set i (some { e with
          slot := some { tag := tag, payload := payload, attempts := 0, lastAnswered := false } }) }
        status := .ok
        results := [] } := by
  have length : ¬ (payload.length = 0 ∨ Config.payloadBytes < payload.length) := by
    change ¬ (payload.length = 0 ∨ 64 < payload.length)
    omega
  simp only [forward, nodeIndex_nat8, entry, if_neg length, State.modifyNode_of_inUse entry]

/-- Check 4 of FORWARD. -/
theorem forward_of_down (down : e.state = .down) : forward (nat8 i) tag payload s = refuse s .state := by
  rw [forward_of_fits entry tag nonempty fits, if_pos down]

/-- Check 5 of FORWARD. -/
theorem forward_of_slotTaken (notDown : e.state ≠ .down) (taken : e.slot ≠ none ∨ e.resync ≠ none) :
    forward (nat8 i) tag payload s = refuse s .busy := by
  rw [forward_of_fits entry tag nonempty fits, if_neg notDown, if_pos (NodeEntry.slotTaken_iff.2 taken)]

/-- FORWARD with every check passed. -/
theorem forward_of_checked (notDown : e.state ≠ .down) (available : ¬ (e.slot ≠ none ∨ e.resync ≠ none)) :
    forward (nat8 i) tag payload s =
      { state := { s with nodes := s.nodes.set i (some { e with
          slot := some { tag := tag, payload := payload, attempts := 0, lastAnswered := false } }) }
        status := .ok
        results := [] } := by
  rw [forward_of_fits entry tag nonempty fits, if_neg notDown, if_neg (mt NodeEntry.slotTaken_iff.1 available)]

end Fits

end Forward

/-! ## CANCEL (R153) -/

/-- Check 1 of CANCEL. -/
theorem cancel_of_index {index : Byte} (above : 31 < index.toNat) (s : State) :
    cancel index s = refuse s .range := by
  rw [cancel, nodeIndex_eq_none above]

/-- Check 2 of CANCEL. -/
theorem cancel_of_free {s : State} {i : Fin 32} (free : s.nodes[i] = none) :
    cancel (nat8 i) s = refuse s .noent := by
  simp only [cancel, nodeIndex_nat8, free]

section Cancel
variable {s : State} {i : Fin 32} {e : NodeEntry} (entry : s.nodes[i] = some e)
include entry

/-- Check 3 of CANCEL. -/
theorem cancel_of_noPayload (absent : e.slot = none) : cancel (nat8 i) s = refuse s .noent := by
  simp only [cancel, nodeIndex_nat8, entry, absent]

/-- CANCEL with every check passed. -/
theorem cancel_of_payload {p : DownPayload} (present : e.slot = some p) :
    cancel (nat8 i) s =
      { state := { s with nodes := s.nodes.set i (some { e with
          slot := none, resync := if 0 < p.attempts then some p.tag else e.resync }) }.emit
            [.add (.delivery i p.tag .cancelled p.attempts), .raise .delivery]
        status := .ok
        results := be16 p.tag ++ [nat8 p.attempts] } := by
  simp only [cancel, nodeIndex_nat8, entry, present, State.resolve_cancelled entry]

end Cancel

/-! ## The statement -/

/-- Settles O44: each clause is one check, or the effects, of the command's rule, read off by the lemma for that case. -/
theorem forwardFillsAndCancelEmptiesTheSlot : Obligations.ForwardFillsAndCancelEmptiesTheSlot := by
  unfold Obligations.ForwardFillsAndCancelEmptiesTheSlot
  refine ⟨fun ref tag index payload s accepts refused refused_iff => ⟨fun above => ?forwardRange, ?forwardInRange⟩,
    fun ref index s accepts refused refused_iff => ⟨fun above => ?cancelRange, ?cancelInRange⟩⟩
  case forwardRange =>
    exact (refused_iff _).2 (command_of_refuse accepts 0x50 ref (forward_of_index above tag payload s))
  case forwardInRange =>
    rintro i rfl
    refine ⟨fun free => ?free, fun e entry => ⟨fun length => ?length, fun nonempty fits =>
      ⟨fun down => ?down, fun notDown taken => ?busy, fun notDown noSlot noResync => ?filled⟩⟩⟩
    case free =>
      exact (refused_iff _).2 (command_of_refuse accepts 0x50 ref (forward_of_free free tag payload))
    case length =>
      exact (refused_iff _).2 (command_of_refuse accepts 0x50 ref (forward_of_length entry tag length))
    case down =>
      exact (refused_iff _).2 (command_of_refuse accepts 0x50 ref (forward_of_down entry tag nonempty fits down))
    case busy =>
      exact (refused_iff _).2
        (command_of_refuse accepts 0x50 ref (forward_of_slotTaken entry tag nonempty fits notDown taken))
    case filled =>
      have available : ¬ (e.slot ≠ none ∨ e.resync ≠ none) :=
        not_or.2 ⟨not_not_intro noSlot, not_not_intro noResync⟩
      exact command_of_answer accepts 0x50 ref (forward_of_checked entry tag nonempty fits notDown available)
  case cancelRange =>
    exact (refused_iff _).2 (command_of_refuse accepts 0x51 ref (cancel_of_index above s))
  case cancelInRange =>
    rintro i rfl
    refine ⟨fun free => ?free, fun e entry => ⟨fun absent => ?absent, fun p present => ?emptied⟩⟩
    case free => exact (refused_iff _).2 (command_of_refuse accepts 0x51 ref (cancel_of_free free))
    case absent => exact (refused_iff _).2 (command_of_refuse accepts 0x51 ref (cancel_of_noPayload entry absent))
    case emptied => exact command_of_answer accepts 0x51 ref (cancel_of_payload entry present)

end Sys2Proof.Machine

/-! SUPPORT. What a step can do, said once: the changes of the part, each with the condition under which it occurs, and the
lemma that a step outside master reset is a series of them. An invariant then needs a case per change. -/

namespace Sys2Proof.Machine

/-! ## The changes of the part -/

/-- One change of the part outside master reset, with the condition under which it occurs. Every step is a series of them
(`exec_reaches`). -/
inductive Change : State → State → Prop where
  /-- Parts of the state that stand alone: the two slots of the trunk link, its counters, and the model's own fields. -/
  | aside (s : State) (transmission : Option Transmission) (badFrames droppedCommands : Word16) (reply : Option Reply)
      (tied : List TxSource) (freeCount : Nat) : Change s { s with
        transmission := transmission, badFrames := badFrames, droppedCommands := droppedCommands, replySlot := reply
        tied := tied, freeCount := freeCount }
  | raise (s : State) (f : Flag) : Change s (s.raise f)
  | receive (s : State) (r : ReceiverState) (fits : s.receiver.ok = true → r.ok = true) : Change s { s with receiver := r }
  | transmit (s : State) (source : TxSource) : Change s (s.takeFrame source)
  -- the clock
  | period (s : State) (within : s.timer.divider + 1 < s.timer.timing.tickDivide) :
      Change s { s with timer := { s.timer with divider := s.timer.divider + 1 } }
  | tick (s : State) : Change s s.tick
  | boundary (s : State) (counter untaken : Nat) (running : s.timer.engine = .running) :
      Change s ({ s with timer := { s.timer with cycleCounter := counter } }.boundary untaken)
  | start (s : State) (halted : s.timer.engine = .halted) : Change s s.start
  | streamEngine (s : State) : Change s s.streamEngineBoundary
  | assembler (s : State) : Change s s.assemblerBoundary
  | stop (s : State) (running : s.timer.engine = .running)
      (taken : s.notices = { streamEngine := [], assembler := 0 }) : Change s s.stop
  -- the field port
  | beaconBegin (s : State) (cycle : Word16) (ready : s.port.ready = true) (running : s.timer.engine = .running) :
      Change s { s with
        sched := { s.sched with beacon := none }
        port := { s.port with state := .sending { beacon := true, bytes := beaconFrame cycle }, fldDe := true } }
  | beaconSent (s : State) (frame : FieldFrame) (sending : s.port.state = .sending frame) (beacon : frame.beacon = true) :
      Change s s.portToIdle.stopIfStopping
  | walk (s : State) (position : Nat)
      (skipped : examineSlots s.nodes s.sched.active s.sched.position (s.sched.active.drop s.sched.position) =
        (position, none)) : Change s { s with sched := { s.sched with position := position } }
  | poll (s : State) (position : Nat) (i : Fin 32) (probe : Bool) (e : NodeEntry) (ready : s.port.ready = true)
      (running : s.timer.engine = .running)
      (taken : examineSlots s.nodes s.sched.active s.sched.position (s.sched.active.drop s.sched.position) =
        (position, some (i, probe))) (entry : s.nodes[i] = some e) :
      Change s ({ s with sched := { s.sched with position := position + 1 } }.beginPoll i e probe)
  | pollSent (s : State) (frame : FieldFrame) (sending : s.port.state = .sending frame) (poll : frame.beacon = false) :
      Change s { s with
        port := { s.port with
          state := .awaiting 0, replyTimer := some s.timer.timing.replyTimeout, fldDe := false }
        cal := { s.cal with thresholdInUse := s.cal.nextThreshold } }
  | await (s : State) (n m : Nat) (awaiting : s.port.state = .awaiting n) :
      Change s { s with port := { s.port with state := .awaiting m } }
  | delimiter (s : State) (n : Nat) (awaiting : s.port.state = .awaiting n) :
      Change s { s with port := { s.port with state := .receiving Reception.start, replyTimer := none } }
  | decode (s : State) (rx rx' : Reception) (receiving : s.port.state = .receiving rx) :
      Change s { s with port := { s.port with state := .receiving rx' } }
  | measure (s : State) (len : Nat) : Change s (s.measure len)
  | failed (s : State) (x : Exchange) (how : Failure) (exchange : s.port.exchange = some x)
      (exchanging : s.port.state.exchanging = true) : Change s ((s.failedExchange x how).endExchange x)
  | replied (s : State) (x : Exchange) (r : NodeReply) (exchange : s.port.exchange = some x)
      (exchanging : s.port.state.exchanging = true) : Change s ((s.validReply x r).endExchange x)
  /-- No run comes here: a port that exchanges has its exchange (`State.portOk`). -/
  | released (s : State) (none : s.port.exchange = none) (exchanging : s.port.state.exchanging = true) :
      Change s s.portToIdle
  | turnGapEnd (s : State) : Change s { s with port := { s.port with turnGap := none } }
  -- the host's commands
  | clearFlags (s : State) (set : BitVec 10) :
      Change s { s with status := s.status.clear set s.timer.cycleNumber }
  | setMask (s : State) (mask : BitVec 10) :
      Change s { s with status := s.status.setMask mask s.timer.cycleNumber }
  | flush (s : State) : Change s s.flush
  | setTiming (s : State) (t : Timing) (halted : s.timer.engine = .halted) (ok : t.ok) : Change s (s.setTiming t)
  | load (s : State) (list : List (Fin 32)) (short : list.length ≤ Config.scheduleSlots) :
      Change s { s with sched := { s.sched with pending := some list } }
  | setNode (s : State) (i : Fin 32) (address : Byte) (range : 1 ≤ address.toNat ∧ address.toNat ≤ 126)
      (free : ¬ s.addressTaken i address = true) : Change s (s.setNode i address)
  | freeNode (s : State) (i : Fin 32) (unbound : ¬ s.nodeBound i = true) (unused : ¬ s.inFlight i = true) :
      Change s { s with nodes := s.nodes.set i none }
  | clearNode (s : State) (i : Fin 32) : Change s (s.clearNode i)
  | fill (s : State) (i : Fin 32) (e : NodeEntry) (tag : Word16) (payload : List Byte) (entry : s.nodes[i] = some e)
      (length : 1 ≤ payload.length ∧ payload.length ≤ Config.payloadBytes) (notDown : e.state ≠ .down)
      (noSlot : e.slot = none) (noResync : e.resync = none) :
      Change s (s.modifyNode i fun e =>
        { e with slot := some { tag := tag, payload := payload, attempts := 0, lastAnswered := false } })
  | cancel (s : State) (i : Fin 32) (p : DownPayload) : Change s (s.resolve i p .cancelled (0 < p.attempts))
  | setStream (s : State) (i : Fin 64) (node : Fin 32) (tag : Fin 8) (args : StreamArgs) (config : StreamConfig)
      (inUse : s.nodes[node].isNone = false) (free : ¬ s.pairTaken i node tag = true)
      (parsed : parseStream args node tag = some config) : Change s (s.setStream i (some (StreamCtx.set config)))
  | enable (s : State) (i : Fin 64) (c : StreamCtx) (stream : s.streams[i] = some c) (idle : c.state = .idle) :
      Change s (s.setStream i (some (c.restarted (s.enabledState c.config.node))))
  | disable (s : State) (i : Fin 64) (c : StreamCtx) (stream : s.streams[i] = some c) (running : c.state ≠ .idle) :
      Change s ((s.setStream i (some (c.setAside .idle))).emit (c.run.releaseFor i .disable))
  | deleteStream (s : State) (i : Fin 64) : Change s (s.setStream i none)
  | readStream (s : State) (i : Fin 64) (c : StreamCtx) (stream : s.streams[i] = some c) :
      Change s (s.setStream i (some c.afterRead))
  | setMarks (s : State) (high low : Nat) (ordered : low < high) (within : high ≤ Config.queueBytes) :
      Change s { s with queue := s.queue.setMarks high low }
  | clearLost (s : State) : Change s { s with queue := { s.queue with lost := LossCounters.zero } }

/-- A series of changes. -/
abbrev Reaches : State → State → Prop := Relation.ReflTransGen Change

/-! ## The shells of a step -/

theorem Change.reaches {s t : State} (h : Change s t) : Reaches s t := .single h

/-- Noting what began to wait together is a change of the model's own field. -/
theorem Reaches.settle {s t : State} (h : Reaches s t) (before : State) : Reaches s (before.settle t) := by
  rw [State.settle_spec]
  exact h.tail (.aside t t.transmission t.badFrames t.droppedCommands t.replySlot _ t.freeCount)

theorem Reaches.drawIf {s t : State} (h : Reaches s t) (b : Bool) : Reaches s (t.drawIf b) := by
  cases b
  · exact h
  · exact h.tail (.aside t t.transmission t.badFrames t.droppedCommands t.replySlot t.tied _)

/-- The REPLY placed in the Reply Slot. -/
theorem Reaches.place {s : State} {a : Answer} (h : Reaches s a.state) (opcode : Byte) (ref : Word16) :
    Reaches s (a.place opcode ref) :=
  h.tail (.aside a.state a.state.transmission a.state.badFrames a.state.droppedCommands _ a.state.tied a.state.freeCount)

theorem reaches_dropCommand (s : State) : Reaches s s.dropCommand :=
  (Change.aside s s.transmission s.badFrames (bump s.droppedCommands) s.replySlot s.tied s.freeCount).reaches.tail
    (.raise _ .trunk)

/-- A good frame taken or dropped, when its rule's effects are a series of changes. -/
theorem reaches_take {s : State} {rule : State → Answer} (h : Reaches s (rule s).state) (opcode : Byte) (ref : Word16) :
    Reaches s (s.take opcode ref rule) := by
  unfold State.take
  split
  · exact (reaches_dropCommand s).settle s
  · exact (h.place opcode ref).settle _

/-! ## The field line -/

theorem reaches_measure (s : State) (lens : List Nat) : Reaches s (lens.foldl State.measure s) := by
  induction lens generalizing s with
  | nil => exact .refl
  | cons len lens ih => exact (Change.measure s len).reaches.trans (ih _)

@[simp] theorem State.measure_holding (s : State) (len : Nat) : (s.measure len).holding = s.holding := by
  unfold State.measure
  split <;> simp
@[simp] theorem State.measure_timer (s : State) (len : Nat) : (s.measure len).timer = s.timer := by
  unfold State.measure
  split <;> simp
@[simp] theorem State.measure_sched (s : State) (len : Nat) : (s.measure len).sched = s.sched := by
  unfold State.measure
  split <;> simp
@[simp] theorem State.measure_notices (s : State) (len : Nat) : (s.measure len).notices = s.notices := by
  unfold State.measure
  split <;> simp
@[simp] theorem State.measure_port (s : State) (len : Nat) : (s.measure len).port = s.port := by
  unfold State.measure
  split <;> simp
@[simp] theorem State.measure_nodes (s : State) (len : Nat) : (s.measure len).nodes = s.nodes := by
  unfold State.measure
  split <;> simp
@[simp] theorem State.measure_streams (s : State) (len : Nat) : (s.measure len).streams = s.streams := by
  unfold State.measure
  split <;> simp
@[simp] theorem State.measure_queue (s : State) (len : Nat) : (s.measure len).queue = s.queue := by
  unfold State.measure
  split <;> simp
@[simp] theorem State.measure_receiver (s : State) (len : Nat) : (s.measure len).receiver = s.receiver := by
  unfold State.measure
  split <;> simp

@[simp] theorem State.measure_all_port (s : State) (lens : List Nat) : (lens.foldl State.measure s).port = s.port := by
  induction lens generalizing s with
  | nil => rfl
  | cons len lens ih => rw [List.foldl_cons, ih, State.measure_port]

/-- A failed exchange ends. -/
theorem reaches_fail {s : State} (exchanging : s.port.state.exchanging = true) (how : Failure) :
    Reaches s (s.fail how) := by
  unfold State.fail
  split
  next x exchange => exact (Change.failed s x how exchange exchanging).reaches
  next none => exact (Change.released s none exchanging).reaches

/-- A complete frame is a valid reply, or the exchange has failed (R54). -/
theorem reaches_judge {s : State} (exchanging : s.port.state.exchanging = true) (bytes : List Byte) :
    Reaches s (s.judge bytes) := by
  unfold State.judge
  split
  next none => exact (Change.released s none exchanging).reaches
  next x exchange =>
    have spoiled := (Change.failed s x .spoiled exchange exchanging).reaches
    split
    · exact spoiled
    · split
      next r _ => exact (Change.replied s x r exchange exchanging).reaches
      · exact spoiled

theorem reaches_conclude {s : State} {rx : Reception} (receiving : s.port.state = .receiving rx) (h : Hearing) :
    Reaches s (s.conclude h) := by
  have exchanging : s.port.state.exchanging = true := by rw [receiving]; rfl
  cases h with
  | more rx' => exact (Change.decode s rx rx' receiving).reaches
  | complete bytes => exact (reaches_judge exchanging bytes).settle s
  | spoiled => exact (reaches_fail exchanging .spoiled).settle s

theorem reaches_hear {s : State} {rx : Reception} (receiving : s.port.state = .receiving rx) (sps : List Spacing) :
    Reaches s (s.hear rx sps) :=
  (reaches_measure s _).trans (reaches_conclude (rx := rx) (by rw [State.measure_all_port, receiving]) _)

theorem reaches_await {s : State} {n : Nat} (awaiting : s.port.state = .awaiting n) (sps : List Spacing) :
    Reaches s (s.await n sps) := by
  unfold State.await
  split
  · exact (Change.await s n _ awaiting).reaches
  · exact (Change.delimiter s n awaiting).reaches.trans (reaches_hear rfl _)

theorem reaches_listen (s : State) (sps : List Spacing) : Reaches s (s.listen sps) := by
  unfold State.listen
  split
  · exact reaches_await ‹_› sps
  · exact reaches_hear ‹_› sps
  · exact .refl
  · exact .refl

theorem reaches_silence (s : State) : Reaches s s.silence := by
  unfold State.silence
  split
  next n awaiting => exact (Change.await s n 0 awaiting).reaches
  next rx receiving => exact (reaches_fail (by rw [receiving]; rfl) .spoiled).settle s
  · exact .refl
  · exact .refl

/-! ## The slot walk -/

/-- The slot walk takes a slot of an in-use entry only (R37). -/
theorem examineSlots_entry {nodes : Vector (Option NodeEntry) 32} {active slots : List (Fin 32)} {pos pos' : Nat}
    {i : Fin 32} {probe : Bool} (h : examineSlots nodes active pos slots = (pos', some (i, probe))) :
    ∃ e, nodes[i] = some e := by
  induction slots generalizing pos with
  | nil => simp [examineSlots] at h
  | cons j rest ih =>
    unfold examineSlots at h
    split at h
    · exact ih h
    next e entry =>
      split at h
      · split at h
        · simp only [Prod.mk.injEq, Option.some.injEq] at h
          exact ⟨e, h.2.1 ▸ entry⟩
        · exact ih h
      · simp only [Prod.mk.injEq, Option.some.injEq] at h
        exact ⟨e, h.2.1 ▸ entry⟩

/-! ## The reactions to a boundary -/

theorem reaches_takeNotice (s : State) : Reaches s s.takeNotice := by
  unfold State.takeNotice
  split
  · exact (Change.assembler s).reaches.settle s
  · exact (Change.streamEngine s).reaches.settle s
  · have drawn : Reaches s (s.drawIf true) := Reaches.drawIf .refl true
    dsimp only
    split
    · exact Reaches.settle (drawn.tail (.streamEngine _)) _
    · exact Reaches.settle (drawn.tail (.assembler _)) _

theorem reaches_reactions (n : Nat) (s : State) : Reaches s (s.reactions n) := by
  induction n generalizing s with
  | zero => exact .refl
  | succ n ih => exact (reaches_takeNotice s).trans (ih _)

/-! ## The rules of the host's commands -/

/-- The effects of a rule are a series of changes. -/
def Sound (rule : State → Answer) : Prop := ∀ s, Reaches s (rule s).state

theorem sound_formatAnswer : Sound formatAnswer := fun _ => .refl
theorem sound_identify : Sound identify := fun _ => .refl
theorem sound_status (set : Word16) : Sound (status set) := fun s => (Change.clearFlags s _).reaches
theorem sound_alertMask (mask : Word16) : Sound (alertMask mask) := fun s => (Change.setMask s _).reaches
theorem sound_flush : Sound flush := fun s => (Change.flush s).reaches

/-- The parameters that TIMING accepts lie in their ranges (Table 2-3). -/
theorem parseTiming_ok {args : TimingArgs} {t : Timing} (h : parseTiming args = some t) : t.ok := by
  rw [parseTiming_eq] at h
  split at h
  · cases h; assumption
  · cases h

theorem sound_timing (args : TimingArgs) : Sound (timing args) := by
  intro s
  unfold timing
  split
  · exact .refl
  next halted =>
    split
    · exact .refl
    next t parsed => exact (Change.setTiming s t (not_not.1 halted) (parseTiming_ok parsed)).reaches

theorem sound_run : Sound run := by
  intro s
  unfold run
  split
  next halted => exact (Change.start s halted).reaches
  · exact .refl
  · exact .refl

theorem sound_halt : Sound halt := by
  intro s
  unfold halt
  split
  next running =>
    have taken : Reaches s s.takeNotices := reaches_reactions _ s
    exact taken.tail (.stop _ (by rw [s.takeNotices_kept.2.1, running]) s.takeNotices_notices)
  · exact .refl

/-- The node indices that argument bytes name are as many as the bytes. -/
theorem slotIndices_length {bytes : List Byte} {list : List (Fin 32)} (h : slotIndices bytes = some list) :
    list.length = bytes.length := by
  induction bytes generalizing list with
  | nil => cases h; rfl
  | cons b bytes ih =>
    unfold slotIndices at h
    split at h
    next i is _ rest =>
      cases h
      rw [List.length_cons, List.length_cons, ih rest]
    · cases h

theorem sound_scheduleLoad (count : Byte) (slots : List Byte) : Sound (scheduleLoad count slots) := by
  intro s
  unfold scheduleLoad
  split
  · exact .refl
  next length =>
    split
    · exact .refl
    next within =>
      split
      · exact .refl
      next list named =>
        exact (Change.load s list (by rw [slotIndices_length named]; omega)).reaches

theorem sound_scheduleRead (selector : Byte) : Sound (scheduleRead selector) := by
  intro s
  unfold scheduleRead
  split
  · exact .refl
  · split
    · split <;> exact .refl
    · exact .refl

theorem sound_lineRead : Sound lineRead := fun _ => .refl

theorem sound_nodeSet (node address : Byte) : Sound (nodeSet node address) := by
  intro s
  unfold nodeSet
  split
  · exact .refl
  next i _ =>
    split
    · exact .refl
    next range =>
      split
      · exact .refl
      next free =>
        split
        · exact .refl
        · exact (Change.setNode s i address (by omega) free).reaches

theorem sound_nodeDelete (node : Byte) : Sound (nodeDelete node) := by
  intro s
  unfold nodeDelete
  split
  · exact .refl
  next i _ =>
    split
    · exact .refl
    · split
      · exact .refl
      next unbound =>
        split
        · exact .refl
        next notBusy =>
          refine (Change.freeNode s i unbound fun inFlight => notBusy ?_).reaches
          rw [State.nodeBusy, inFlight, Bool.true_or]

theorem sound_nodeRead (node clear : Byte) : Sound (nodeRead node clear) := by
  intro s
  unfold nodeRead
  split
  · exact .refl
  next i _ =>
    split
    · exact .refl
    next clear _ =>
      split
      · exact .refl
      · have cleared : Reaches s (if clear then s.clearNode i else s) := by
          split
          · exact (Change.clearNode s i).reaches
          · exact .refl
        exact cleared.drawIf _

theorem sound_streamSet (stream : Byte) (args : StreamArgs) : Sound (streamSet stream args) := by
  intro s
  unfold streamSet
  split
  next i node tag _ _ _ =>
    split
    · exact .refl
    · split
      · exact .refl
      next inUse =>
        split
        · exact .refl
        next free =>
          split
          · exact .refl
          next config parsed =>
            exact (Change.setStream s i node tag args config (Bool.eq_false_iff.2 inUse) free parsed).reaches
  · exact .refl

theorem sound_streamEnable (stream : Byte) : Sound (streamEnable stream) := by
  intro s
  unfold streamEnable
  split
  · exact .refl
  next i _ =>
    split
    · exact .refl
    next c context =>
      split
      next idle => exact (Change.enable s i c context idle).reaches
      · exact .refl

theorem sound_streamDisable (stream : Byte) : Sound (streamDisable stream) := by
  intro s
  unfold streamDisable
  split
  · exact .refl
  next i _ =>
    split
    · exact .refl
    next c context =>
      split
      · exact .refl
      next running => exact (Change.disable s i c context running).reaches

theorem sound_streamDelete (stream : Byte) : Sound (streamDelete stream) := by
  intro s
  unfold streamDelete
  split
  · exact .refl
  next i _ =>
    split
    · exact .refl
    · split
      · exact (Change.deleteStream s i).reaches
      · exact .refl

theorem sound_streamRead (stream : Byte) : Sound (streamRead stream) := by
  intro s
  unfold streamRead
  split
  · exact .refl
  next i _ =>
    split
    · exact .refl
    next c context => exact (Change.readStream s i c context).reaches

theorem sound_queueMarks (high low : Word16) : Sound (queueMarks high low) := by
  intro s
  unfold queueMarks
  split
  · exact .refl
  · exact (Change.setMarks s high.toNat low.toNat (by omega) (by omega)).reaches

theorem sound_queueRead (clear : Byte) : Sound (queueRead clear) := by
  intro s
  unfold queueRead
  split
  · exact .refl
  next clear _ =>
    have cleared : Reaches s (if clear then { s with queue := { s.queue with lost := LossCounters.zero } } else s) := by
      split
      · exact (Change.clearLost s).reaches
      · exact .refl
    exact cleared.drawIf _

theorem sound_forward (node : Byte) (tag : Word16) (payload : List Byte) : Sound (forward node tag payload) := by
  intro s
  unfold forward
  split
  · exact .refl
  next i _ =>
    split
    · exact .refl
    next e entry =>
      split
      · exact .refl
      next length =>
        split
        · exact .refl
        next notDown =>
          split
          · exact .refl
          next empty =>
            rw [NodeEntry.slotTaken_iff, not_or, not_not, not_not] at empty
            exact (Change.fill s i e tag payload entry (by omega) notDown empty.1 empty.2).reaches

theorem sound_cancel (node : Byte) : Sound (cancel node) := by
  intro s
  unfold cancel
  split
  · exact .refl
  next i _ =>
    split
    · exact .refl
    · split
      · exact .refl
      next p _ => exact (Change.cancel s i p).reaches

theorem noByte_sound {rule : State → Answer} (sound : Sound rule) {args : List Byte} {r : State → Answer}
    (h : noByte rule args = some r) : Sound r := by
  unfold noByte at h
  split at h <;> cases h
  exact sound

theorem oneByte_sound {rule : Byte → State → Answer} (sound : ∀ a, Sound (rule a)) {args : List Byte}
    {r : State → Answer} (h : oneByte rule args = some r) : Sound r := by
  unfold oneByte at h
  split at h <;> cases h
  exact sound _

theorem twoBytes_sound {rule : Byte → Byte → State → Answer} (sound : ∀ a b, Sound (rule a b)) {args : List Byte}
    {r : State → Answer} (h : twoBytes rule args = some r) : Sound r := by
  unfold twoBytes at h
  split at h <;> cases h
  exact sound _ _

/-- The effects of every rule that a frame can name are a series of changes (Table 11-5). -/
theorem commandRule_sound {opcode : Byte} {args : List Byte} {rule : State → Answer}
    (h : commandRule opcode args = some rule) : Sound rule := by
  unfold commandRule at h
  split at h
  · exact noByte_sound sound_identify h
  · exact twoBytes_sound (fun _ _ => sound_status _) h
  · exact twoBytes_sound (fun _ _ => sound_alertMask _) h
  · exact noByte_sound sound_flush h
  · obtain ⟨args, -, rfl⟩ := Option.map_eq_some_iff.1 h
    exact sound_timing args
  · exact noByte_sound sound_run h
  · exact noByte_sound sound_halt h
  · split at h <;> cases h
    exact sound_scheduleLoad _ _
  · exact oneByte_sound sound_scheduleRead h
  · exact noByte_sound sound_lineRead h
  · exact twoBytes_sound sound_nodeSet h
  · exact oneByte_sound sound_nodeDelete h
  · exact twoBytes_sound sound_nodeRead h
  · split at h
    · obtain ⟨args, -, rfl⟩ := Option.map_eq_some_iff.1 h
      exact sound_streamSet _ args
    · cases h
  · exact oneByte_sound sound_streamEnable h
  · exact oneByte_sound sound_streamDisable h
  · exact oneByte_sound sound_streamDelete h
  · exact oneByte_sound sound_streamRead h
  · split at h <;> cases h
    exact sound_queueMarks _ _
  · exact oneByte_sound sound_queueRead h
  · split at h <;> cases h
    exact sound_forward _ _ _
  · exact oneByte_sound sound_cancel h
  · cases h

/-! ## The Trunk Receiver -/

theorem reaches_handOn (s : State) (content : List Byte) : Reaches s (s.handOn content) := by
  have format : ∀ (opcode : Byte) (ref : Word16), Reaches s (s.take opcode ref formatAnswer) :=
    fun opcode ref => reaches_take (sound_formatAnswer s) opcode ref
  unfold State.handOn
  split
  next type opcode r1 r0 args =>
    split
    · cases named : commandRule opcode args with
      | none => exact format opcode _
      | some rule => exact reaches_take (commandRule_sound named s) opcode _
    · exact format 0 0
  · exact format 0 0

theorem reaches_badFrame (s : State) : Reaches s s.badFrame := by
  have counted : Reaches s { s with receiver := .hunt, badFrames := bump s.badFrames } :=
    (Change.receive s .hunt fun _ => rfl).reaches.tail (.aside _ s.transmission (bump s.badFrames) s.droppedCommands
      s.replySlot s.tied s.freeCount)
  exact Reaches.settle (counted.tail (.raise _ .trunk)) s

theorem huntByte_ok (b : Byte) : (huntByte b).ok = true := by
  unfold huntByte
  split <;> rfl

theorem rehunt_ok (hi lo : Byte) : (rehunt hi lo).ok = true := by
  unfold rehunt
  split
  · rfl
  · exact huntByte_ok lo

theorem lengthByte_ok (got : List Byte) (b : Byte) : (lengthByte got b).ok = true := by
  unfold lengthByte
  split
  · rfl
  next hi _ =>
    dsimp only
    split
    · exact rehunt_ok hi b
    next good =>
      have pos : 0 < (word16 hi b).toNat := by
        simp only [lengthBad, Bool.or_eq_true, not_or] at good
        exact Nat.pos_of_ne_zero (by simpa using good.1)
      simp [ReceiverState.ok, good, pos]

theorem reaches_receiveByte (s : State) (b : Byte) : Reaches s (s.receiveByte b) := by
  unfold State.receiveByte
  split
  · exact (Change.receive s _ fun _ => huntByte_ok b).reaches
  next got _ => exact (Change.receive s _ fun _ => lengthByte_ok got b).reaches
  next length got receiver =>
    refine (Change.receive s _ fun ok => ?_).reaches
    rw [receiver] at ok
    simp only [ReceiverState.ok, Bool.and_eq_true, decide_eq_true_eq] at ok
    split
    next more => simp [ReceiverState.ok, ok.1] at more ⊢; exact more
    next full =>
      simp only [List.length_append, List.length_singleton] at full
      simp [ReceiverState.ok, ok.1]
      omega
  next length content crc receiver =>
    split
    · refine (Change.receive s _ fun ok => ?_).reaches
      rw [receiver] at ok
      simpa [ReceiverState.ok] using ok
    · unfold State.checkFrame
      split
      · exact (Change.receive s .hunt fun _ => rfl).reaches.trans (reaches_handOn _ content)
      · exact reaches_badFrame s

theorem reaches_receiveBytes (s : State) (bytes : List Byte) : Reaches s (s.receiveBytes bytes) := by
  induction bytes generalizing s with
  | nil => exact .refl
  | cons b bytes ih => exact (reaches_receiveByte s b).trans (ih _)

theorem reaches_discardBegun (s : State) : Reaches s s.discardBegun := by
  unfold State.discardBegun
  split
  · exact .refl
  all_goals exact reaches_badFrame s

/-! ## The step -/

/-- A step outside master reset leaves a held part as it is, and otherwise has its effect (R177). -/
theorem outsideReset_cases {s t : State} {f : State → State} (h : outsideReset s f = .next t) :
    t = s ∨ (s.live ∧ t = f s) := by
  simp only [outsideReset, Host.Outcome.next.injEq] at h
  split at h
  · exact .inl h.symm
  next live => exact .inr ⟨Option.not_isSome_iff_eq_none.1 live, h.symm⟩

theorem reaches_outsideReset {s t : State} {f : State → State} (h : outsideReset s f = .next t) (effect : Reaches s (f s)) :
    Reaches s t := by
  obtain rfl | ⟨-, rfl⟩ := outsideReset_cases h
  · exact .refl
  · exact effect

theorem reaches_event {s t : State} {f : State → State} (h : event s f = .next t) (effect : Reaches s (f s)) :
    Reaches s t :=
  reaches_outsideReset h (effect.settle s)

theorem reaches_command {s t : State} {opcode : Byte} {ref : Word16} {rule : State → Answer} (sound : Sound rule)
    (h : command opcode ref rule s = .next t) : Reaches s t :=
  reaches_outsideReset h (reaches_take (sound s) opcode ref)

/-- Every command but the two of master reset makes a series of changes, and none while master reset holds the part. -/
theorem exec_reaches {c : Instr} {s t : State} (notReset : ∀ cause, c ≠ .masterReset cause)
    (notEnd : ∀ r1 r0, c ≠ .masterResetEnd r1 r0) (h : exec c s = .next t) : Reaches s t := by
  cases c with
  | masterReset cause => exact absurd rfl (notReset cause)
  | masterResetEnd r1 r0 => exact absurd rfl (notEnd r1 r0)
  | tick => exact reaches_event h (Change.tick s).reaches
  | cycleBoundary =>
    refine reaches_event h ?_
    split
    next due => exact (Change.boundary s _ _ due.1).reaches
    · exact .refl
  | streamEngineBoundary => exact reaches_event h (Change.streamEngine s).reaches
  | boundaryFrameClose => exact reaches_event h (Change.assembler s).reaches
  | beaconBegin =>
    unfold exec execBeaconBegin at h
    refine reaches_event h ?_
    split
    next cycle _ =>
      split
      next may => exact (Change.beaconBegin s cycle may.1 may.2).reaches
      · exact .refl
    · exact .refl
  | beaconSent =>
    unfold exec execBeaconSent at h
    refine reaches_event h ?_
    split
    next frame sending =>
      split
      next beacon => exact (Change.beaconSent s frame sending beacon).reaches
      · exact .refl
    all_goals exact .refl
  | slotExamine =>
    refine reaches_event h ?_
    split
    next may =>
      split
      next position skipped => exact (Change.walk s position skipped).reaches
      next position i probe taken =>
        obtain ⟨e, entry⟩ := examineSlots_entry taken
        simp only [entry]
        exact (Change.poll s position i probe e may.1 may.2.1 taken entry).reaches
    · exact .refl
  | pollSent =>
    unfold exec execPollSent at h
    refine reaches_event h ?_
    split
    next frame sending =>
      split
      · exact .refl
      next poll => exact (Change.pollSent s frame sending (Bool.eq_false_iff.2 poll)).reaches
    all_goals exact .refl
  | startDelimiter sps =>
    unfold exec execStartDelimiter at h
    exact reaches_outsideReset h (reaches_listen s sps)
  | replyTimeout =>
    unfold exec execReplyTimeout at h
    refine reaches_event h ?_
    split
    next n awaiting =>
      split
      · exact reaches_fail (by rw [awaiting]; rfl) .timeout
      · exact .refl
    all_goals exact .refl
  | replyComplete sps =>
    unfold exec execReplyComplete at h
    exact reaches_outsideReset h (reaches_listen s sps)
  | receptionAbort sps =>
    unfold exec execReceptionAbort at h
    exact reaches_outsideReset h (reaches_listen s sps)
  | lineSilence sps =>
    unfold exec execLineSilence at h
    exact reaches_outsideReset h ((reaches_listen s sps).trans (reaches_silence _))
  | turnGapEnd =>
    refine reaches_event h ?_
    split
    · exact (Change.turnGapEnd s).reaches
    · exact .refl
  | calibrationWindowComplete sps =>
    unfold exec execCalibrationWindowComplete at h
    exact reaches_outsideReset h (reaches_listen s sps)
  | trunkFrameReceived bytes =>
    unfold exec execTrunkFrameReceived at h
    exact reaches_outsideReset h (reaches_receiveBytes s bytes)
  | trunkGapTimeout bytes =>
    unfold exec execTrunkGapTimeout at h
    exact reaches_outsideReset h ((reaches_receiveBytes s bytes).trans (reaches_discardBegun _))
  | transmitBegin =>
    unfold exec execTransmitBegin at h
    refine reaches_event h ?_
    split
    · exact .refl
    · split
      next source _ => exact (Reaches.drawIf .refl _).tail (.transmit _ source)
      · exact .refl
  | transmitEnd =>
    unfold exec execTransmitEnd at h
    exact reaches_event h
      (Change.aside s none s.badFrames s.droppedCommands s.replySlot s.tied s.freeCount).reaches
  | identify ref => exact reaches_command sound_identify h
  | status ref set => exact reaches_command (sound_status set) h
  | alertMask ref mask => exact reaches_command (sound_alertMask mask) h
  | flush ref => exact reaches_command sound_flush h
  | timing ref args => exact reaches_command (sound_timing args) h
  | run ref => exact reaches_command sound_run h
  | halt ref => exact reaches_command sound_halt h
  | scheduleLoad ref count slots => exact reaches_command (sound_scheduleLoad count slots) h
  | scheduleRead ref selector => exact reaches_command (sound_scheduleRead selector) h
  | lineRead ref => exact reaches_command sound_lineRead h
  | nodeSet ref node address => exact reaches_command (sound_nodeSet node address) h
  | nodeDelete ref node => exact reaches_command (sound_nodeDelete node) h
  | nodeRead ref node clear => exact reaches_command (sound_nodeRead node clear) h
  | streamSet ref stream args => exact reaches_command (sound_streamSet stream args) h
  | streamEnable ref stream => exact reaches_command (sound_streamEnable stream) h
  | streamDisable ref stream => exact reaches_command (sound_streamDisable stream) h
  | streamDelete ref stream => exact reaches_command (sound_streamDelete stream) h
  | streamRead ref stream => exact reaches_command (sound_streamRead stream) h
  | queueMarks ref high low => exact reaches_command (sound_queueMarks high low) h
  | queueRead ref clear => exact reaches_command (sound_queueRead clear) h
  | forward ref node tag payload => exact reaches_command (sound_forward node tag payload) h
  | cancel ref node => exact reaches_command (sound_cancel node) h
  | trunkByteError bytes =>
    unfold exec execTrunkByteError at h
    exact reaches_outsideReset h ((reaches_receiveBytes s bytes).trans (reaches_discardBegun _))
  | lengthOutOfRange length =>
    refine reaches_outsideReset h ?_
    split
    · split
      · exact reaches_receiveBytes s _
      · exact .refl
    · exact .refl

/-! ## What an exchange's end keeps -/

section
variable (s : State) (x : Exchange) (how : Failure) (r : NodeReply)

@[simp] theorem State.failedExchange_holding : (s.failedExchange x how).holding = s.holding :=
  (congrArg State.holding (s.failedExchange_rest x how) :)
@[simp] theorem State.failedExchange_timer : (s.failedExchange x how).timer = s.timer :=
  (congrArg State.timer (s.failedExchange_rest x how) :)
@[simp] theorem State.failedExchange_sched : (s.failedExchange x how).sched = s.sched :=
  (congrArg State.sched (s.failedExchange_rest x how) :)
@[simp] theorem State.failedExchange_notices : (s.failedExchange x how).notices = s.notices :=
  (congrArg State.notices (s.failedExchange_rest x how) :)
@[simp] theorem State.failedExchange_port : (s.failedExchange x how).port = s.port :=
  (congrArg State.port (s.failedExchange_rest x how) :)
@[simp] theorem State.failedExchange_cal : (s.failedExchange x how).cal = s.cal :=
  (congrArg State.cal (s.failedExchange_rest x how) :)
@[simp] theorem State.failedExchange_receiver : (s.failedExchange x how).receiver = s.receiver :=
  (congrArg State.receiver (s.failedExchange_rest x how) :)

@[simp] theorem State.validReply_holding : (s.validReply x r).holding = s.holding :=
  (congrArg State.holding (s.validReply_rest x r) :)
@[simp] theorem State.validReply_timer : (s.validReply x r).timer = s.timer :=
  (congrArg State.timer (s.validReply_rest x r) :)
@[simp] theorem State.validReply_sched : (s.validReply x r).sched = s.sched :=
  (congrArg State.sched (s.validReply_rest x r) :)
@[simp] theorem State.validReply_notices : (s.validReply x r).notices = s.notices :=
  (congrArg State.notices (s.validReply_rest x r) :)
@[simp] theorem State.validReply_port : (s.validReply x r).port = s.port :=
  (congrArg State.port (s.validReply_rest x r) :)
@[simp] theorem State.validReply_cal : (s.validReply x r).cal = s.cal :=
  (congrArg State.cal (s.validReply_rest x r) :)
@[simp] theorem State.validReply_receiver : (s.validReply x r).receiver = s.receiver :=
  (congrArg State.receiver (s.validReply_rest x r) :)

/-- The node table at the end of an exchange: a probe's countdown is reloaded (R38). -/
def State.probed (s : State) (x : Exchange) : State :=
  if x.probe then s.modifyNode x.node fun e => { e with probeCountdown := s.timer.timing.probeInterval } else s

theorem State.endExchange_eq : s.endExchange x = ((s.probed x).portToIdle).stopIfStopping := by
  unfold State.endExchange State.probed
  dsimp only
  split <;> rfl

@[simp] theorem State.probed_rest : (s.probed x).rest = s.rest := by
  unfold State.probed
  split <;> simp

@[simp] theorem State.endExchange_holding : (s.endExchange x).holding = s.holding := by
  rw [State.endExchange_eq, State.stopIfStopping_holding, State.portToIdle_holding]
  exact (congrArg State.holding (s.probed_rest x) :)
@[simp] theorem State.endExchange_sched : (s.endExchange x).sched = s.sched := by
  rw [State.endExchange_eq, State.stopIfStopping_sched, State.portToIdle_sched]
  exact (congrArg State.sched (s.probed_rest x) :)
@[simp] theorem State.endExchange_notices : (s.endExchange x).notices = s.notices := by
  rw [State.endExchange_eq, State.stopIfStopping_notices, State.portToIdle_notices]
  exact (congrArg State.notices (s.probed_rest x) :)
@[simp] theorem State.endExchange_cal : (s.endExchange x).cal = s.cal := by
  rw [State.endExchange_eq, State.stopIfStopping_cal, State.portToIdle_cal]
  exact (congrArg State.cal (s.probed_rest x) :)
@[simp] theorem State.endExchange_receiver : (s.endExchange x).receiver = s.receiver := by
  rw [State.endExchange_eq, State.stopIfStopping_receiver, State.portToIdle_receiver]
  exact (congrArg State.receiver (s.probed_rest x) :)
@[simp] theorem State.endExchange_streams : (s.endExchange x).streams = s.streams := by
  rw [State.endExchange_eq, State.stopIfStopping_streams, State.portToIdle_streams]
  unfold State.probed
  split <;> rfl

end

/-! ## What a frame taken and a boundary in the Stream Engine keep -/

@[simp] theorem State.takeFrame_holding (s : State) (source : TxSource) : (s.takeFrame source).holding = s.holding := by
  cases source <;> simp only [State.takeFrame] <;> split <;> rfl
@[simp] theorem State.takeFrame_timer (s : State) (source : TxSource) : (s.takeFrame source).timer = s.timer := by
  cases source <;> simp only [State.takeFrame] <;> split <;> rfl
@[simp] theorem State.takeFrame_sched (s : State) (source : TxSource) : (s.takeFrame source).sched = s.sched := by
  cases source <;> simp only [State.takeFrame] <;> split <;> rfl
@[simp] theorem State.takeFrame_notices (s : State) (source : TxSource) : (s.takeFrame source).notices = s.notices := by
  cases source <;> simp only [State.takeFrame] <;> split <;> rfl
@[simp] theorem State.takeFrame_port (s : State) (source : TxSource) : (s.takeFrame source).port = s.port := by
  cases source <;> simp only [State.takeFrame] <;> split <;> rfl
@[simp] theorem State.takeFrame_cal (s : State) (source : TxSource) : (s.takeFrame source).cal = s.cal := by
  cases source <;> simp only [State.takeFrame] <;> split <;> rfl
@[simp] theorem State.takeFrame_nodes (s : State) (source : TxSource) : (s.takeFrame source).nodes = s.nodes := by
  cases source <;> simp only [State.takeFrame] <;> split <;> rfl
@[simp] theorem State.takeFrame_streams (s : State) (source : TxSource) : (s.takeFrame source).streams = s.streams := by
  cases source <;> simp only [State.takeFrame] <;> split <;> rfl
@[simp] theorem State.takeFrame_receiver (s : State) (source : TxSource) : (s.takeFrame source).receiver = s.receiver := by
  cases source <;> simp only [State.takeFrame] <;> split <;> rfl
@[simp] theorem State.streamEngineBoundary_holding (s : State) : s.streamEngineBoundary.holding = s.holding :=
  (congrArg State.holding s.streamEngineBoundary_rest :)
@[simp] theorem State.streamEngineBoundary_timer (s : State) : s.streamEngineBoundary.timer = s.timer :=
  (congrArg State.timer s.streamEngineBoundary_rest :)
@[simp] theorem State.streamEngineBoundary_sched (s : State) : s.streamEngineBoundary.sched = s.sched :=
  (congrArg State.sched s.streamEngineBoundary_rest :)
@[simp] theorem State.streamEngineBoundary_port (s : State) : s.streamEngineBoundary.port = s.port :=
  (congrArg State.port s.streamEngineBoundary_rest :)
@[simp] theorem State.streamEngineBoundary_cal (s : State) : s.streamEngineBoundary.cal = s.cal :=
  (congrArg State.cal s.streamEngineBoundary_rest :)
@[simp] theorem State.streamEngineBoundary_receiver (s : State) : s.streamEngineBoundary.receiver = s.receiver :=
  (congrArg State.receiver s.streamEngineBoundary_rest :)
@[simp] theorem State.streamEngineBoundary_nodes (s : State) : s.streamEngineBoundary.nodes = s.nodes := by
  unfold State.streamEngineBoundary
  split
  · rw [State.eachStream_nodes]
  · rfl
@[simp] theorem State.assemblerBoundary_holding (s : State) : s.assemblerBoundary.holding = s.holding := by
  unfold State.assemblerBoundary
  split <;> rfl
@[simp] theorem State.assemblerBoundary_timer (s : State) : s.assemblerBoundary.timer = s.timer := by
  unfold State.assemblerBoundary
  split <;> rfl
@[simp] theorem State.assemblerBoundary_sched (s : State) : s.assemblerBoundary.sched = s.sched := by
  unfold State.assemblerBoundary
  split <;> rfl
@[simp] theorem State.assemblerBoundary_port (s : State) : s.assemblerBoundary.port = s.port := by
  unfold State.assemblerBoundary
  split <;> rfl
@[simp] theorem State.assemblerBoundary_cal (s : State) : s.assemblerBoundary.cal = s.cal := by
  unfold State.assemblerBoundary
  split <;> rfl
@[simp] theorem State.assemblerBoundary_nodes (s : State) : s.assemblerBoundary.nodes = s.nodes := by
  unfold State.assemblerBoundary
  split <;> rfl
@[simp] theorem State.assemblerBoundary_streams (s : State) : s.assemblerBoundary.streams = s.streams := by
  unfold State.assemblerBoundary
  split <;> rfl
@[simp] theorem State.assemblerBoundary_receiver (s : State) : s.assemblerBoundary.receiver = s.receiver := by
  unfold State.assemblerBoundary
  split <;> rfl

/-! ## Master reset holds the part -/

/-- While master reset holds the part, no command but the end of the reset, or a loss of power, has any effect (R177). -/
theorem exec_of_held {c : Instr} {s : State} (held : s.holding ≠ none) (notPower : c ≠ .masterReset .power)
    (notEnd : ∀ r1 r0, c ≠ .masterResetEnd r1 r0) : exec c s = .next s := by
  cases c with
  | masterReset cause =>
    cases cause with
    | power => exact absurd rfl notPower
    | pin =>
      obtain ⟨cause, eq⟩ := Option.ne_none_iff_exists'.1 held
      simp only [exec, execMasterReset, eq]
  | masterResetEnd r1 r0 => exact absurd rfl (notEnd r1 r0)
  | _ => exact congrArg Host.Outcome.next (if_pos (Option.isSome_iff_ne_none.2 held))

/-- What MASTER_RESET does: it begins to hold the part, or does nothing in a reset begun by RESET_N (R177). -/
theorem exec_masterReset {cause : ResetCause} {s t : State} (h : exec (.masterReset cause) s = .next t) :
    t = s ∨ t = s.hold cause := by
  simp only [exec, execMasterReset, Host.Outcome.next.injEq] at h
  split at h
  · exact .inl h.symm
  · exact .inr h.symm

/-- The part as the end of master reset leaves it, the model's own count and queue kept (R177, log entry 13). -/
def State.afterReset (s : State) (cause : ResetCause) (rate1 rate0 : Bool) : State :=
  { State.masterReset cause rate1 rate0 with freeCount := s.freeCount, pending := s.pending }

theorem exec_masterResetEnd {r1 r0 : Bool} {s t : State} (h : exec (.masterResetEnd r1 r0) s = .next t) :
    t = s ∨ ∃ cause, t = s.afterReset cause r1 r0 := by
  simp only [exec, execMasterResetEnd, Host.Outcome.next.injEq] at h
  split at h
  next cause _ => exact .inr ⟨cause, h.symm⟩
  · exact .inl h.symm

/-! ## The induction over a step -/

/-- No change begins or ends a master reset. -/
theorem Change.holding {s t : State} (h : Change s t) : t.holding = s.holding := by
  cases h with
  | transmit => simp
  | boundary => simp [State.boundary]
  | start => simp [State.start, State.boundary]
  | streamEngine => simp
  | assembler => simp
  | stop =>
    simp only [State.stop]
    split <;> rfl
  | beaconSent => simp
  | measure =>
    unfold State.measure
    split <;> simp
  | failed => simp
  | replied => simp
  | setNode =>
    simp only [State.setNode]
    split <;> simp [State.resetStreams]
  | cancel => simp
  | disable => simp
  | _ => rfl

/-- What each change outside master reset keeps, a series of changes keeps. -/
theorem Reaches.keeps {P : State → Prop} (change : ∀ s t, s.live → P s → Change s t → P t) {s t : State}
    (h : Reaches s t) (live : s.live) (p : P s) : t.live ∧ P t := by
  induction h with
  | refl => exact ⟨live, p⟩
  | tail _ next ih => exact ⟨next.holding.trans ih.1, change _ _ ih.1 ih.2 next⟩

/-- The induction over a step: what the beginning and the end of master reset and each change outside it keep, every step
keeps. -/
theorem step_keeps {P : State → Prop} (dequeue : ∀ s rest, P s → P { s with pending := rest })
    (hold : ∀ s cause, P s → P (s.hold cause)) (reset : ∀ (s : State) cause r1 r0, P (s.afterReset cause r1 r0))
    (change : ∀ s t, s.live → P s → Change s t → P t) {s t : State} (p : P s) (h : step s = .next t) : P t := by
  unfold step at h
  split at h
  · rw [← Host.Outcome.next.inj h, State.referencePeriod]
    split
    · exact p
    next live =>
      have live := Option.not_isSome_iff_eq_none.1 live
      split
      next within => exact change s _ live p (.period s within)
      · exact change s _ live p (.tick s)
  next c rest _ =>
    replace p := dequeue s rest p
    generalize ({ s with pending := rest } : State) = s at p h
    by_cases isReset : (∃ cause, c = .masterReset cause) ∨ ∃ r1 r0, c = .masterResetEnd r1 r0
    · obtain ⟨cause, rfl⟩ | ⟨r1, r0, rfl⟩ := isReset
      · obtain rfl | rfl := exec_masterReset h
        · exact p
        · exact hold s cause p
      · obtain rfl | ⟨cause, rfl⟩ := exec_masterResetEnd h
        · exact p
        · exact reset s cause r1 r0
    · simp only [not_or, not_exists] at isReset
      by_cases live : s.live
      · exact ((exec_reaches isReset.1 isReset.2 h).keeps change live p).2
      · rw [exec_of_held live (isReset.1 .power) isReset.2] at h
        exact Host.Outcome.next.inj h ▸ p

end Sys2Proof.Machine

/-! SUPPORT. The uplink queue's invariant: what the outcome of an exchange keeps of any property that the node table and the
streams have no part in, the queue's own operations, and the statement that every step keeps the queue in order (R132 to
R139). -/

namespace Sys2Proof.Machine

/-! ## What the outcome of an exchange keeps -/

/-- A property of the state that the node table, the Unclaimed counters and the streams have no part in, and that entries
added and flags raised keep. -/
structure EffectsKeep (P : State → Prop) : Prop where
  tables : ∀ (s : State) nodes unclaimed streams, P s →
    P { s with nodes := nodes, unclaimed := unclaimed, streams := streams }
  addEntry : ∀ (s : State) (e : Entry), P s → P (s.addEntry e)
  raise : ∀ (s : State) (f : Flag), P s → P (s.raise f)

namespace EffectsKeep
variable {P : State → Prop} (keep : EffectsKeep P) {s : State}
include keep

theorem modifyNode (i : Fin 32) (f : NodeEntry → NodeEntry) (p : P s) : P (s.modifyNode i f) :=
  keep.tables s _ s.unclaimed s.streams p

theorem setUnclaimed (i : Fin 32) (n : Word16) (p : P s) : P (s.setUnclaimed i n) :=
  keep.tables s s.nodes _ s.streams p

theorem setStream (i : Fin 64) (c : Option StreamCtx) (p : P s) : P (s.setStream i c) :=
  keep.tables s s.nodes s.unclaimed _ p

theorem emit (effects : List Effect) (p : P s) : P (s.emit effects) := by
  induction effects generalizing s with
  | nil => exact p
  | cons effect effects ih =>
    rw [State.emit_cons]
    cases effect with
    | add e => exact ih (keep.addEntry s e p)
    | raise f => exact ih (keep.raise s f p)

theorem eachStream (f : Fin 64 → StreamCtx → StreamCtx × List Effect) (p : P s) : P (s.eachStream f) :=
  keep.emit _ (keep.tables s s.nodes s.unclaimed _ p)

theorem resolve (i : Fin 32) (d : DownPayload) (outcome : DeliveryOutcome) (uncertain : Bool) (p : P s) :
    P (s.resolve i d outcome uncertain) :=
  keep.emit _ (keep.modifyNode i _ p)

theorem protocolError (i : Fin 32) (p : P s) : P (s.protocolError i) :=
  keep.raise _ .proto (keep.modifyNode i _ p)

theorem stageLiveness (i : Fin 32) (before : NodeState) (f : Bool) (p : P s) : P (s.stageLiveness i before f) := by
  have up := keep.emit ((livenessEntry before f).toList.map fun reason => .add (.nodeUp i reason))
    (keep.modifyNode i (fun e => { e with state := .up, retryCount := 0 }) p)
  unfold State.stageLiveness
  dsimp only
  split
  · exact keep.eachStream _ up
  · exact up

theorem stageRestart (i : Fin 32) (before : NodeState) (f : Bool) (p : P s) : P (s.stageRestart i before f) := by
  have indicated := keep.modifyNode i NodeEntry.restartIndicated p
  unfold State.stageRestart
  dsimp only
  split
  · split
    · exact indicated
    · exact keep.eachStream _ indicated
  · exact p

theorem notTaken (i : Fin 32) (e : NodeEntry) (d : DownPayload) (kind : ReplyKind) (p : P s) :
    P (s.notTaken i e d kind) := by
  unfold State.notTaken
  split
  · exact keep.resolve i d _ _ p
  · split
    · exact keep.resolve i d _ _ p
    · exact p

theorem evaluateA (i : Fin 32) (e : NodeEntry) (kind : ReplyKind) (a : Bool) (p : P s) : P (s.evaluateA i e kind a) := by
  unfold State.evaluateA
  split
  next d _ =>
    split
    · exact keep.notTaken i e d kind p
    · split
      · exact keep.emit _ (keep.modifyNode i _ p)
      · exact keep.protocolError i p
  · split
    · exact keep.modifyNode i _ p
    · exact keep.emit _ (keep.modifyNode i _ p)
  · split
    · exact p
    · exact keep.protocolError i p

theorem stageA (i : Fin 32) (kind : ReplyKind) (a carried : Bool) (p : P s) : P (s.stageA i kind a carried) := by
  have answered := keep.modifyNode i (·.answered carried) p
  unfold State.stageA
  dsimp only
  split
  · exact keep.evaluateA i _ kind a answered
  · exact answered

theorem dispatch (i : Fin 32) (b : Block) (p : P s) : P (s.dispatch i b) := by
  unfold State.dispatch
  split
  · exact keep.setUnclaimed i _ p
  · split
    · exact p
    · split
      · split
        · exact keep.emit _ (keep.setStream _ _ p)
        · exact keep.setStream _ _ p
      · exact keep.setUnclaimed i _ p

theorem dispatchAll (i : Fin 32) (blocks : List Block) (p : P s) : P (blocks.foldl (fun s b => s.dispatch i b) s) := by
  induction blocks generalizing s with
  | nil => exact p
  | cons b blocks ih => exact ih (keep.dispatch i b p)

theorem stageData (i : Fin 32) (g sBit : Bool) (payload : List Byte) (p : P s) : P (s.stageData i g sBit payload) := by
  have checked : ∀ t : State, P t → P (if g then t else t.protocolError i) := by
    intro t p
    split
    · exact p
    · exact keep.protocolError i p
  unfold State.stageData
  split
  · exact checked _ (keep.protocolError i p)
  next blocks _ =>
    unfold State.sequenceCheck
    dsimp only
    split
    · exact checked s p
    · split
      · exact keep.dispatchAll i blocks (keep.modifyNode i _ (checked s p))
      · exact keep.modifyNode i _ (checked s p)

theorem validReply (x : Exchange) (r : NodeReply) (p : P s) : P (s.validReply x r) := by
  unfold State.validReply
  split
  · exact p
  next e _ =>
    have settled := keep.stageA x.node r.kind r.a x.carried (keep.modifyNode x.node (·.holdRecord r.kind)
      (keep.stageRestart x.node e.state r.f (keep.stageLiveness x.node e.state r.f p)))
    dsimp only
    split
    · exact keep.stageData x.node x.g _ _ settled
    · exact settled
    · exact settled

theorem goDown (i : Fin 32) (e : NodeEntry) (p : P s) : P (s.goDown i e) := by
  have suspended := keep.eachStream (fun k c =>
      if c.config.node = i ∧ c.state = .active then (c.setAside .suspended, c.run.releaseFor k .suspend) else (c, []))
    (keep.emit [.add (.nodeDown i), .raise .node] (keep.modifyNode i
      (fun e => { e with state := .down, probeCountdown := s.timer.timing.probeInterval }) p))
  unfold State.goDown
  dsimp only
  split
  · exact keep.resolve i _ _ _ suspended
  · exact suspended

theorem failedExchange (x : Exchange) (how : Failure) (p : P s) : P (s.failedExchange x how) := by
  unfold State.failedExchange
  split
  · exact p
  next e _ =>
    have counted := keep.modifyNode x.node (·.countFailure how) p
    dsimp only
    split
    · exact counted
    · have retried := keep.modifyNode x.node
        (fun e' => { e' with retryCount := min (e.retryCount + 1) s.timer.timing.retryLimit }) counted
      split
      · have failed := keep.modifyNode x.node (fun e => { e with state := e.state.failed }) retried
        unfold State.failedAttempt
        split
        · split
          · exact keep.resolve x.node _ _ _ failed
          · exact failed
        · exact failed
      · exact keep.goDown x.node e retried

theorem setNode (i : Fin 32) (address : Byte) (p : P s) : P (s.setNode i address) := by
  have fresh := keep.tables s (s.nodes.set i (some (NodeEntry.fresh address))) (s.unclaimed.set i 0) s.streams p
  unfold State.setNode
  dsimp only
  split
  · exact keep.eachStream _ fresh
  · exact fresh

end EffectsKeep

/-! ## The bounds of the uplink queue -/

/-- What holds of the queue before the Throttled mark is evaluated: all of `UplinkQueue.ok` but the mark (R132, R134). -/
def UplinkQueue.bounded (q : UplinkQueue) : Prop :=
  q.frames.length ≤ Config.queueFrames ∧ q.occupancy ≤ Config.queueBytes ∧ (∀ f ∈ q.frames, f.ok) ∧
    (∀ f ∈ q.openFrame, f.stillOpen) ∧ (q.lowMark < q.highMark ∧ q.highMark ≤ Config.queueBytes)

theorem UplinkQueue.ok_iff (q : UplinkQueue) : q.ok ↔ q.bounded ∧
    (q.highMark ≤ q.occupancy → q.throttled = true) ∧ (q.occupancy ≤ q.lowMark → q.throttled = false) := by
  simp only [UplinkQueue.ok, UplinkQueue.bounded, and_assoc]

/-- The evaluation makes the Throttled mark what the occupancy and the marks give (R139). -/
theorem UplinkQueue.bounded.evaluate_ok {q : UplinkQueue} (h : q.bounded) : q.evaluate.ok := by
  have marks := h.2.2.2.2.1
  rw [UplinkQueue.ok_iff, UplinkQueue.evaluate_occupancy]
  unfold UplinkQueue.evaluate
  split
  · exact ⟨h, fun _ => rfl, fun low => by dsimp only at *; omega⟩
  next below =>
    split
    · exact ⟨h, fun high => absurd high below, fun _ => rfl⟩
    next above => exact ⟨h, fun high => absurd high below, fun low => absurd low above⟩

/-- The body length of the closed frames and the open one (R132). -/
theorem UplinkQueue.occupancy_eq (q : UplinkQueue) :
    q.occupancy = (q.closed.map ReportFrame.size).sum + (q.openFrame.toList.map ReportFrame.size).sum := by
  simp [UplinkQueue.occupancy, UplinkQueue.frames]

/-- A frame of fitting size, with its new last entry, takes its place at the tail (R133, R136). -/
theorem UplinkQueue.place_bounded {q : UplinkQueue} {f : ReportFrame} {e : Entry}
    (frames : q.closed.length < Config.queueFrames)
    (bytes : (q.closed.map ReportFrame.size).sum + f.size ≤ Config.queueBytes) (ok : ∀ g ∈ q.closed, g.ok) (new : f.ok)
    (calm : e.urgent = false → ∀ e' ∈ f.entries, e'.urgent = false) (flags : f.flags = ⟨false, false, false, false⟩)
    (marks : q.lowMark < q.highMark ∧ q.highMark ≤ Config.queueBytes) : (q.place f e).bounded := by
  have size : (q.place f e).occupancy ≤ Config.queueBytes := by rw [UplinkQueue.place_occupancy]; exact bytes
  unfold UplinkQueue.place at size ⊢
  split
  next closes =>
    rw [if_pos closes] at size
    refine ⟨by simpa [UplinkQueue.frames] using frames, size, ?_, by simp, marks⟩
    simp only [UplinkQueue.frames, Option.toList_none, List.append_nil, List.mem_append, List.mem_singleton]
    rintro g (old | rfl)
    · exact ok g old
    · exact new
  next stays =>
    rw [if_neg stays] at size
    simp only [ReportFrame.closesOn, Bool.or_eq_true, decide_eq_true_eq, not_or, Bool.not_eq_true] at stays
    refine ⟨by simpa [UplinkQueue.frames] using frames, size, ?_, ?_, marks⟩
    · simp only [UplinkQueue.frames, Option.toList_some, List.mem_append, List.mem_singleton]
      rintro g (old | rfl)
      · exact ok g old
      · exact new
    · rintro g ⟨⟩
      exact ⟨by omega, calm stays.2, flags⟩

/-- An addition keeps the queue's bounds and has the Throttled mark evaluated (R133). -/
theorem UplinkQueue.ok.add {q : UplinkQueue} (h : q.ok) (cycle : Word16) (e : Entry) : (q.add cycle e).1.ok := by
  obtain ⟨frames, bytes, ok, still, marks, -⟩ := h
  unfold UplinkQueue.add
  split
  next g joins =>
    apply UplinkQueue.bounded.evaluate_ok
    unfold UplinkQueue.joinable at joins
    split at joins
    next _ isOpen =>
      split at joins <;> cases joins
      next fits =>
      obtain ⟨room, urgent, flags⟩ := still g isOpen
      rw [UplinkQueue.occupancy_eq, isOpen] at fits
      simp only [UplinkQueue.frames, isOpen, Option.toList_some, List.mem_append, List.mem_singleton, List.length_append,
        List.length_singleton] at frames ok
      refine UplinkQueue.place_bounded (by omega) ?_ (fun g closed => ok g (.inl closed)) ?_ ?_ flags marks
      · rw [ReportFrame.add_size]
        simp at fits
        omega
      · exact ⟨by simp [ReportFrame.add], by simp [ReportFrame.add]; omega⟩
      · intro calm e' mem
        simp only [ReportFrame.add, List.mem_append, List.mem_singleton] at mem
        obtain old | rfl := mem
        · exact urgent e' old
        · exact calm
    · cases joins
  · split
    next opens =>
      apply UplinkQueue.bounded.evaluate_ok
      simp only [UplinkQueue.roomToOpen, Bool.and_eq_true, decide_eq_true_eq] at opens
      refine UplinkQueue.place_bounded opens.1 ?_ ok ?_ ?_ rfl marks
      · simp only [UplinkQueue.occupancy] at opens
        simp only [UplinkQueue.newFrame, ReportFrame.size, List.map_cons, List.map_nil, List.sum_cons, List.sum_nil]
        omega
      · exact ⟨by simp [UplinkQueue.newFrame], by simp [UplinkQueue.newFrame, Config.frameEntries]⟩
      · simp [UplinkQueue.newFrame]
    · exact UplinkQueue.bounded.evaluate_ok ⟨frames, bytes, ok, still, marks⟩

/-- A close changes no frame's entries, so it keeps the queue in order (R136). -/
theorem UplinkQueue.ok.close {q : UplinkQueue} (h : q.ok) (flags : CloseFlags → CloseFlags) : (q.close flags).ok := by
  have ⟨frames, bytes, ok, _, marks, high, low⟩ := h
  have same := q.close_occupancy flags
  unfold UplinkQueue.close at same ⊢
  split
  next f isOpen =>
    simp only [isOpen] at same
    simp only [UplinkQueue.frames, isOpen, Option.toList_some, List.mem_append, List.mem_singleton, List.length_append,
      List.length_singleton] at frames ok
    refine ⟨by simpa [UplinkQueue.frames] using frames, same ▸ bytes, ?_, by simp, marks, same ▸ high, same ▸ low⟩
    simp only [UplinkQueue.frames, Option.toList_none, List.append_nil, List.mem_append, List.mem_singleton]
    rintro g (old | rfl)
    · exact ok g (.inl old)
    · exact ok f (.inr rfl)
  · exact h

theorem UplinkQueue.ok.drop {q : UplinkQueue} {f : ReportFrame} {rest : List ReportFrame} (h : q.ok)
    (closed : q.closed = f :: rest) : ({ q with closed := rest } : UplinkQueue).evaluate.ok := by
  obtain ⟨frames, bytes, ok, still, marks, -⟩ := h
  rw [UplinkQueue.occupancy_eq, closed] at bytes
  simp only [UplinkQueue.frames, closed, List.length_append, List.length_cons, List.cons_append, List.mem_cons]
    at frames ok
  refine UplinkQueue.bounded.evaluate_ok ⟨?_, ?_, fun g mem => ok g (.inr mem), still, marks⟩
  · simp only [UplinkQueue.frames, List.length_append]
    omega
  · rw [UplinkQueue.occupancy_eq]
    simp only [List.map_cons, List.sum_cons] at bytes ⊢
    omega

/-- An empty queue with its marks in order and Throttled clear is in order. -/
theorem UplinkQueue.ok_of_empty {q : UplinkQueue} (closed : q.closed = []) (noOpen : q.openFrame = none)
    (marks : q.lowMark < q.highMark ∧ q.highMark ≤ Config.queueBytes) (clear : q.throttled = false) : q.ok := by
  have frames : q.frames = [] := by rw [UplinkQueue.frames, closed, noOpen]; rfl
  have none : q.occupancy = 0 := by rw [UplinkQueue.occupancy, frames]; rfl
  rw [UplinkQueue.ok_iff, none]
  refine ⟨⟨by simp [frames], by omega, by simp [frames], by simp [noOpen], marks⟩, fun high => by omega, fun _ => clear⟩

theorem UplinkQueue.ok.setMarks {q : UplinkQueue} (h : q.ok) {high low : Nat} (ordered : low < high)
    (within : high ≤ Config.queueBytes) : (q.setMarks high low).ok := by
  obtain ⟨frames, bytes, ok, still, -⟩ := h
  exact UplinkQueue.bounded.evaluate_ok ⟨frames, bytes, ok, still, ordered, within⟩

/-! ## The invariant of the queue -/

theorem queueOk_effects : EffectsKeep State.queueOk where
  tables _ _ _ _ h := h
  raise _ _ h := h
  addEntry s e h := by
    have added := UplinkQueue.ok.add h s.timer.cycleNumber e
    unfold State.addEntry
    split
    next q add => rw [add] at added; exact added
    next q add => rw [add] at added; exact added

theorem State.queueOk.stopIfStopping {s : State} (h : s.queueOk) : s.stopIfStopping.queueOk := by
  unfold State.stopIfStopping
  split
  · exact UplinkQueue.ok.close h _
  · exact h

theorem State.queueOk.endExchange {s : State} (h : s.queueOk) (x : Exchange) : (s.endExchange x).queueOk := by
  rw [State.endExchange_eq]
  refine State.queueOk.stopIfStopping ?_
  unfold State.probed
  split <;> exact h

/-- Every change keeps the uplink queue in order: only additions, closes, a frame taken, QUEUE MARKS and FLUSH change it. -/
theorem Change.keeps_queueOk {s t : State} (h : s.queueOk) (change : Change s t) : t.queueOk := by
  cases change with
  | transmit source =>
    cases source with
    | reply => simp only [State.takeFrame]; split <;> exact h
    | alert => simp only [State.takeFrame]; split <;> exact h
    | report =>
      simp only [State.takeFrame]
      split
      next f rest closed => exact UplinkQueue.ok.drop h closed
      · exact h
  | boundary => simpa [State.boundary] using h
  | start => simpa [State.start, State.boundary] using h
  | streamEngine =>
    unfold State.streamEngineBoundary
    split
    · exact queueOk_effects.eachStream _ h
    · exact h
  | assembler =>
    unfold State.assemblerBoundary
    split
    · exact UplinkQueue.ok.close h _
    · exact h
  | stop =>
    simp only [State.stop]
    split
    · exact UplinkQueue.ok.close h _
    · exact h
  | beaconSent => exact State.queueOk.stopIfStopping h
  | measure len => rwa [State.queueOk, State.measure_queue]
  | failed x how => exact (queueOk_effects.failedExchange x how h).endExchange x
  | replied x r => exact (queueOk_effects.validReply x r h).endExchange x
  | flush => exact UplinkQueue.ok_of_empty rfl rfl h.2.2.2.2.1 rfl
  | setNode i address => exact queueOk_effects.setNode i address h
  | cancel i p => exact queueOk_effects.resolve i p _ _ h
  | disable => exact queueOk_effects.emit _ h
  | setMarks high low ordered within => exact UplinkQueue.ok.setMarks h ordered within
  | _ => exact h

/-- Settles O55, by the induction over a step: the queue is in order at the end of master reset, and every change keeps it. -/
theorem everyStepKeepsQueue : Obligations.EveryStepKeepsQueue := by
  unfold Obligations.EveryStepKeepsQueue
  intro s t h
  exact step_keeps (P := State.queueOk) (fun _ _ h => h) (fun _ _ h => h)
    (fun _ _ _ _ => UplinkQueue.ok_of_empty rfl rfl (show 1024 < 3072 ∧ 3072 ≤ 4096 by decide) rfl) (fun _ _ _ h => Change.keeps_queueOk h) h

end Sys2Proof.Machine

/-! SUPPORT. The cycle boundary in one piece: its six effects written out, with the overrun counted once, and the statements
on the boundary and on RUN (R27, R29, R40). -/

namespace Sys2Proof.Machine

/-! ## Overrun (R40) -/

theorem bumpBy_toNat (count : Word16) (n : Nat) : (bumpBy count n).toNat = min 65535 (count.toNat + n) := by
  rw [bumpBy, BitVec.toNat_ofNat]
  exact Nat.mod_eq_of_lt (by omega)

@[simp] theorem bumpBy_zero (count : Word16) : bumpBy count 0 = count := by
  apply BitVec.eq_of_toNat_eq
  have := count.isLt
  rw [bumpBy_toNat]
  omega

theorem bumpBy_bumpBy (count : Word16) (m n : Nat) : bumpBy (bumpBy count m) n = bumpBy count (m + n) := by
  apply BitVec.eq_of_toNat_eq
  rw [bumpBy_toNat, bumpBy_toNat, bumpBy_toNat]
  omega

theorem State.overrun_eq (s : State) (n : Nat) : s.overrun n = { s with
    sched := { s.sched with overrunCount := bumpBy s.sched.overrunCount n }
    status := if n = 0 then s.status else s.status.raise .overrun s.timer.cycleNumber } := by
  unfold State.overrun
  split
  next none => rw [none, bumpBy_zero]
  · rfl

/-- Two overruns in one boundary are one: the flag is raised for both in the same cycle number (R40, R170). -/
theorem StatusUnit.raise_overrun_twice (u : StatusUnit) (cycle : Word16) (m n : Nat) :
    (if n = 0 then (if m = 0 then u else u.raise .overrun cycle)
      else (if m = 0 then u else u.raise .overrun cycle).raise .overrun cycle) =
      if m + n = 0 then u else u.raise .overrun cycle := by
  by_cases m0 : m = 0
  · simp [m0]
  · by_cases n0 : n = 0
    · simp [n0]
    · simp [m0, n0, StatusUnit.raise_again]

/-! ## The boundary (R27) -/

/-- The slots and the beacon that a boundary counts as overrun, for the slots untaken (R40). -/
def State.lost (s : State) (untaken : Nat) : Nat := untaken + if s.sched.beacon.isSome then 1 else 0

/-- A cycle boundary: the cycle number, the adopted schedule walked from its beginning, the waiting beacon, the overrun, the
countdowns of DOWN nodes, and the notices (R27). -/
theorem State.boundary_eq (s : State) (untaken : Nat) : s.boundary untaken = { s with
    timer := { s.timer with cycleNumber := s.timer.cycleNumber + 1 }
    sched :=
      { active := s.sched.pending.getD s.sched.active, pending := none, position := 0,
        beacon := some (s.timer.cycleNumber + 1), overrunCount := bumpBy s.sched.overrunCount (s.lost untaken) }
    notices :=
      { streamEngine := s.notices.streamEngine ++ [s.timer.cycleNumber], assembler := s.notices.assembler + 1 }
    nodes := s.nodes.map fun e => e.map NodeEntry.probeTick
    status := if s.lost untaken = 0 then s.status else s.status.raise .overrun (s.timer.cycleNumber + 1) } := by
  simp only [State.boundary, State.overrun_eq, bumpBy_bumpBy, StatusUnit.raise_overrun_twice]
  rfl

theorem NodeEntry.probeTick_eq (e : NodeEntry) :
    e.probeTick = if e.state = .down then { e with probeCountdown := e.probeCountdown - 1 } else e := rfl

/-- CYCLE_BOUNDARY in RUNNING, once the cycle counter has reached CyclePeriod (R25, R27). -/
theorem exec_cycleBoundary {s : State} (live : s.live) (running : s.timer.engine = .running)
    (due : s.timer.timing.cyclePeriod ≤ s.timer.cycleCounter) :
    exec .cycleBoundary s = .next (s.settle (({ s with timer := { s.timer with
      cycleCounter := s.timer.cycleCounter - s.timer.timing.cyclePeriod } } : State).boundary
        (s.sched.active.length - s.sched.position))) := by
  rw [exec, execCycleBoundary, event_of_live live, if_pos ⟨running, due⟩]

/-! ## RUN (R29) -/

/-- A boundary with no slot to count and no beacon waiting loses nothing, so RUN raises no flag (R29). -/
theorem State.start_eq {s : State} (noBeacon : s.sched.beacon = none) : s.start = { s with
    timer := { s.timer with engine := .running, cycleCounter := 0, cycleNumber := s.timer.cycleNumber + 1 }
    sched := { s.sched with
      active := s.sched.pending.getD s.sched.active, pending := none, position := 0,
      beacon := some (s.timer.cycleNumber + 1) }
    notices :=
      { streamEngine := s.notices.streamEngine ++ [s.timer.cycleNumber], assembler := s.notices.assembler + 1 }
    nodes := s.nodes.map fun e => e.map NodeEntry.probeTick } := by
  rw [State.start, State.boundary_eq]
  simp [State.lost, noBeacon]

theorem run_of_halted {s : State} (halted : s.timer.engine = .halted) :
    run s = { state := s.start, status := .ok, results := be16 (s.timer.cycleNumber + 1) } := by
  have number : s.start.timer.cycleNumber = s.timer.cycleNumber + 1 := by rw [State.start, State.boundary_eq]
  simp only [run, halted, number]

theorem run_of_running {s : State} (running : s.timer.engine = .running) :
    run s = { state := s, status := .ok, results := be16 s.timer.cycleNumber } := by
  simp only [run, running]

theorem run_of_stopping {s : State} (stopping : s.timer.engine = .stopping) :
    run s = { state := s, status := .busy, results := be16 s.timer.cycleNumber } := by
  simp only [run, stopping]

/-! ## The statements -/

/-- Settles O7: the boundary in one piece, at the state whose cycle counter has given up its period. -/
theorem cycleBoundaryTakesSixEffects : Obligations.CycleBoundaryTakesSixEffects := by
  unfold Obligations.CycleBoundaryTakesSixEffects
  intro s live running due
  refine ⟨_, rfl, s.nodes.map fun e => e.map NodeEntry.probeTick, fun i => ?nodes, ?step⟩
  case nodes =>
    exact Vector.getElem_map _ i.isLt
  case step =>
    rw [exec_cycleBoundary live running due, State.boundary_eq]
    rfl

/-- Settles O8: the schedule and the overrun count as the boundary leaves them, read off its equation. -/
theorem boundaryAdoptsPendingSchedule : Obligations.BoundaryAdoptsPendingSchedule := by
  unfold Obligations.BoundaryAdoptsPendingSchedule
  refine ⟨bumpBy_toNat, fun s live running due => ⟨_, exec_cycleBoundary live running due, ?_⟩,
    fun ref s accepts halted noBeacon => ⟨_, command_of_answer accepts 0x11 ref (run_of_halted halted), ?_⟩⟩
  · simp only [State.settle_sched, State.boundary_eq]
    refine ⟨fun list pending => ?_, fun none => ?_, trivial, trivial, rfl⟩
    · rw [pending, Option.getD_some]
    · rw [none, Option.getD_none]
  · simp only [State.settle_sched, State.replied_sched, State.start_eq noBeacon]
    refine ⟨fun list pending => ?_, fun none => ?_, trivial, trivial, trivial⟩
    · rw [pending, Option.getD_some]
    · rw [none, Option.getD_none]

/-- Settles O9: the answer of RUN in each engine state, in HALTED by the boundary that loses nothing. -/
theorem runStartsTheEngine : Obligations.RunStartsTheEngine := by
  unfold Obligations.RunStartsTheEngine
  refine fun ref s accepts => ⟨fun halted noBeacon => ?halted, fun running => ?running, fun stopping => ?stopping⟩
  case halted =>
    have answer := run_of_halted halted
    rw [State.start_eq noBeacon] at answer
    exact command_of_answer accepts 0x11 ref answer
  case running => exact command_of_answer accepts 0x11 ref (run_of_running running)
  case stopping => exact command_of_answer accepts 0x11 ref (run_of_stopping stopping)

end Sys2Proof.Machine

/-! SUPPORT. The invariants of the Cycle Timer, the schedules and the Line Calibrator, kept by every change, and the statement
that every step keeps them (R24, R32, R37, R41, R57). -/

namespace Sys2Proof.Machine

/-! ## The Cycle Timer and the Poll Scheduler -/

/-- The clock's invariant speaks of the Cycle Timer, the Poll Scheduler and the notices only. -/
theorem State.clockOk.congr {s t : State} (h : s.clockOk) (timer : t.timer = s.timer) (sched : t.sched = s.sched)
    (notices : t.notices = s.notices) : t.clockOk := by
  rw [State.clockOk, timer, sched, notices]
  exact h

/-- An engine that is stopped has no boundary to react to. -/
theorem State.clockOk.stopIfStopping {s : State} (h : s.clockOk) : s.stopIfStopping.clockOk := by
  unfold State.stopIfStopping
  split
  next stopping =>
    obtain ⟨timing, divider, active, pending, position, notices⟩ := h
    exact ⟨timing, divider, active, pending, position, fun _ => notices (by rw [stopping]; decide)⟩
  · exact h

theorem State.clockOk.endExchange {s : State} (h : s.clockOk) (x : Exchange) : (s.endExchange x).clockOk := by
  rw [State.endExchange_eq]
  refine State.clockOk.stopIfStopping ?_
  have rest := s.probed_rest x
  exact h.congr (congrArg State.timer rest :) (congrArg State.sched rest :) (congrArg State.notices rest :)

/-- A boundary in RUNNING adopts a schedule of at most 64 slots and walks it from its beginning (R27). -/
theorem State.clockOk.boundary {s : State} (h : s.clockOk) (running : s.timer.engine = .running) (untaken : Nat) :
    (s.boundary untaken).clockOk := by
  obtain ⟨timing, divider, active, pending, -, -⟩ := h
  rw [State.boundary_eq]
  refine ⟨timing, divider, ?_, by simp, Nat.zero_le _, fun stopped => absurd running stopped⟩
  cases eq : s.sched.pending with
  | none => exact active
  | some list => exact pending list eq

/-- The slot walk stays within the slots it is given, and before their end when it takes one (R37). -/
theorem examineSlots_position {nodes : Vector (Option NodeEntry) 32} {active slots : List (Fin 32)} {pos : Nat} :
    (examineSlots nodes active pos slots).1 +
      (if (examineSlots nodes active pos slots).2.isSome then 1 else 0) ≤ pos + slots.length := by
  induction slots generalizing pos with
  | nil => simp [examineSlots]
  | cons i rest ih =>
    have skip := ih (pos := pos + 1)
    unfold examineSlots
    rw [List.length_cons]
    split
    · omega
    · split
      · split
        · simp
        · omega
      · simp

/-- Every change keeps the Cycle Timer and the Poll Scheduler in their ranges. -/
theorem Change.keeps_clockOk {s t : State} (h : s.clockOk) (change : Change s t) : t.clockOk := by
  have ⟨timing, divider, active, pending, position, notices⟩ := h
  have walked := examineSlots_position (nodes := s.nodes) (active := s.sched.active) (pos := s.sched.position)
    (slots := s.sched.active.drop s.sched.position)
  rw [List.length_drop, Nat.add_sub_cancel' position] at walked
  cases change with
  | transmit => exact h.congr (by simp) (by simp) (by simp)
  | period within => exact ⟨timing, within, active, pending, position, notices⟩
  | tick =>
    refine ⟨timing, timing.1.1, active, pending, position, fun stopped => notices stopped⟩
  | boundary counter untaken running =>
    exact State.clockOk.boundary (s := { s with timer := { s.timer with cycleCounter := counter } })
      ⟨timing, divider, active, pending, position, notices⟩ running untaken
  | start halted =>
    exact State.clockOk.boundary (s := { s with timer := { s.timer with engine := .running, cycleCounter := 0 } })
      ⟨timing, divider, active, pending, position, fun stopped => absurd rfl stopped⟩ rfl 0
  | streamEngine =>
    have rest := s.streamEngineBoundary_rest
    rw [State.clockOk, State.streamEngineBoundary_timer, State.streamEngineBoundary_sched,
      show s.streamEngineBoundary.notices = _ from (congrArg State.notices rest :)]
    refine ⟨timing, divider, active, pending, position, fun stopped => ?_⟩
    rw [notices stopped]
    rfl
  | assembler =>
    have rest := s.assemblerBoundary_rest
    rw [State.clockOk, State.assemblerBoundary_timer, State.assemblerBoundary_sched,
      show s.assemblerBoundary.notices = _ from (congrArg State.notices rest :)]
    refine ⟨timing, divider, active, pending, position, fun stopped => ?_⟩
    rw [notices stopped]
    rfl
  | stop running taken =>
    simp only [State.stop]
    split
    · exact ⟨timing, divider, active, pending, position, fun _ => taken⟩
    · exact ⟨timing, divider, active, pending, position, fun _ => taken⟩
  | beaconSent => exact State.clockOk.stopIfStopping h
  | walk position' skipped =>
    rw [skipped] at walked
    exact ⟨timing, divider, active, pending, walked, notices⟩
  | poll position' i probe e _ _ taken =>
    rw [taken] at walked
    exact ⟨timing, divider, active, pending, walked, notices⟩
  | measure => exact h.congr (by simp) (by simp) (by simp)
  | failed x how => exact State.clockOk.endExchange (h.congr (by simp) (by simp) (by simp)) x
  | replied x r => exact State.clockOk.endExchange (h.congr (by simp) (by simp) (by simp)) x
  | flush => exact ⟨timing, divider, active, pending, Nat.zero_le _, fun _ => rfl⟩
  | setTiming t halted ok => exact ⟨ok, ok.1.1, active, pending, position, notices⟩
  | load list short =>
    refine ⟨timing, divider, active, ?_, position, notices⟩
    rintro _ ⟨⟩
    exact short
  | setNode =>
    simp only [State.setNode]
    split
    · exact h.congr (by simp [State.resetStreams]) (by simp [State.resetStreams]) (by simp [State.resetStreams])
    · exact h
  | cancel => exact h.congr (by simp) (by simp) (by simp)
  | disable => exact h.congr (by simp) (by simp) (by simp)
  | _ => exact h

/-! ## The Line Calibrator -/

/-- A gap of the occupied bins lies between two of them (R59). -/
theorem lowestGap_bounds {bins : BitVec 64} {b : Nat} (h : lowestGap bins = some b) : 1 ≤ b ∧ b ≤ 63 := by
  have gap := List.find?_some h
  have mem := List.mem_of_find?_eq_some h
  simp only [Bool.and_eq_true, List.any_eq_true, List.mem_range] at gap mem
  obtain ⟨⟨-, c, below, -⟩, -⟩ := gap
  omega

/-- The nominal threshold of a FieldDivide in its range (R57). -/
theorem nominalThreshold_bounds {fieldDivide : Nat} (low : 8 ≤ fieldDivide) (high : fieldDivide ≤ 48) :
    1 ≤ nominalThreshold fieldDivide ∧ nominalThreshold fieldDivide ≤ 63 := by
  unfold nominalThreshold
  omega

/-- The Line Calibrator's fields lie in their ranges, of the calibrator alone (R57). -/
def Calibrator.ok (c : Calibrator) : Prop :=
  (1 ≤ c.nextThreshold ∧ c.nextThreshold ≤ 63) ∧ (1 ≤ c.thresholdInUse ∧ c.thresholdInUse ≤ 63) ∧
    c.spacingCount ≤ 255 ∧ c.longCount ≤ c.spacingCount ∧ c.lastLong ≤ 256 ∧ c.consecutiveFails ≤ 255

theorem State.calibratorOk_iff (s : State) : s.calibratorOk ↔ s.cal.ok := Iff.rfl

theorem bumpTo_le {top n : Nat} (h : n ≤ top) : bumpTo top n ≤ top := by
  unfold bumpTo
  split <;> omega

section
variable {c : Calibrator} {fieldDivide : Nat} (low : 8 ≤ fieldDivide) (high : fieldDivide ≤ 48)
include low high

theorem Calibrator.initial_ok : (Calibrator.initial fieldDivide).ok :=
  ⟨nominalThreshold_bounds low high, nominalThreshold_bounds low high, by simp [Calibrator.initial]⟩

theorem Calibrator.ok.newFieldDivide (h : c.ok) : (c.newFieldDivide fieldDivide).ok := by
  obtain ⟨-, -, -, -, last, -⟩ := h
  exact ⟨nominalThreshold_bounds low high, nominalThreshold_bounds low high, by simp [Calibrator.newFieldDivide], by
    simp [Calibrator.newFieldDivide], last, by simp [Calibrator.newFieldDivide]⟩

/-- A completed window leaves the calibrator in its ranges, with a new window (R59). -/
theorem Calibrator.complete_ok (next : 1 ≤ c.nextThreshold ∧ c.nextThreshold ≤ 63)
    (inUse : 1 ≤ c.thresholdInUse ∧ c.thresholdInUse ≤ 63) (long : c.longCount ≤ 256) (fails : c.consecutiveFails ≤ 255) :
    (c.complete fieldDivide).1.ok := by
  have failed : (c.fail fieldDivide).newWindow.ok := by
    have counted : bumpTo 255 c.consecutiveFails ≤ 255 := bumpTo_le fails
    unfold Calibrator.fail
    dsimp only
    split
    · exact ⟨nominalThreshold_bounds low high, inUse, by simp [Calibrator.newWindow], by simp [Calibrator.newWindow],
        long, counted⟩
    · exact ⟨next, inUse, by simp [Calibrator.newWindow], by simp [Calibrator.newWindow], long, counted⟩
  unfold Calibrator.complete
  split
  next b gap =>
    split
    · exact ⟨lowestGap_bounds gap, inUse, by simp [Calibrator.newWindow], by simp [Calibrator.newWindow], long,
        by simp [Calibrator.newWindow, Calibrator.succeed]⟩
    · exact failed
  · exact failed

/-- A spacing measured keeps the calibrator in its ranges (R58). -/
theorem Calibrator.ok.measure (h : c.ok) (len : Nat) : (c.measure fieldDivide len).1.ok := by
  obtain ⟨next, inUse, count, long, last, fails⟩ := h
  have counted : (if 64 ≤ len then c.longCount + 1 else c.longCount) ≤ c.spacingCount + 1 := by
    split <;> omega
  unfold Calibrator.measure
  dsimp only
  split
  · exact Calibrator.complete_ok low high next inUse (by dsimp only; omega) fails
  next more =>
    simp only [Config.windowSpacings, not_le] at more
    exact ⟨next, inUse, by dsimp only; omega, counted, last, fails⟩

end

theorem State.measure_cal (s : State) (len : Nat) :
    (s.measure len).cal = (s.cal.measure s.timer.timing.fieldDivide len).1 := by
  unfold State.measure
  split <;> rename_i eq <;> simp [eq]

/-- Every change keeps the Line Calibrator in its ranges, with the timing parameters in theirs. -/
theorem Change.keeps_calibratorOk {s t : State} (clock : s.clockOk) (h : s.calibratorOk) (change : Change s t) :
    t.calibratorOk := by
  obtain ⟨-, -, -, -, -, -, -, -, low, high, -⟩ := clock.1
  rw [State.calibratorOk_iff] at *
  cases change with
  | transmit => simpa using h
  | boundary => rwa [State.boundary_eq]
  | start => rwa [State.start, State.boundary_eq]
  | streamEngine => simpa using h
  | assembler => simpa using h
  | stop =>
    simp only [State.stop]
    split <;> exact h
  | beaconSent => simpa using h
  | pollSent =>
    obtain ⟨next, -, rest⟩ := h
    exact ⟨next, next, rest⟩
  | measure len =>
    rw [State.measure_cal]
    exact h.measure low high len
  | failed x how => simpa using h
  | replied x r => simpa using h
  | flush => exact Calibrator.initial_ok low high
  | setTiming t _ ok =>
    obtain ⟨-, -, -, -, -, -, -, -, low, high, -⟩ := ok
    unfold State.setTiming
    dsimp only
    split
    · exact h
    · exact h.newFieldDivide low high
  | setNode =>
    simp only [State.setNode]
    split
    · simpa [State.resetStreams] using h
    · exact h
  | cancel => simpa using h
  | disable => simpa using h
  | _ => exact h

/-! ## The statement -/

theorem State.afterReset_clockOk (s : State) (cause : ResetCause) (r1 r0 : Bool) : (s.afterReset cause r1 r0).clockOk := by
  refine ⟨(by decide : Timing.default.ok), Nat.succ_pos 15, Nat.zero_le _, ?_, Nat.le_refl 0, fun _ => rfl⟩
  rintro _ ⟨⟩

/-- Settles O54, by the induction over a step, first for the clock and then for both. -/
theorem everyStepKeepsClockAndCalibrator : Obligations.EveryStepKeepsClockAndCalibrator := by
  unfold Obligations.EveryStepKeepsClockAndCalibrator
  intro s t clock next
  constructor
  · exact step_keeps (P := State.clockOk) (fun _ _ h => h) (fun _ _ h => h) State.afterReset_clockOk
      (fun _ _ _ => Change.keeps_clockOk) clock next
  · intro calibrator
    exact (step_keeps (P := fun s => s.clockOk ∧ s.calibratorOk) (fun _ _ h => h) (fun _ _ h => h)
      (fun s cause r1 r0 => ⟨s.afterReset_clockOk cause r1 r0, (by decide : State.reset.calibratorOk)⟩)
      (fun _ _ _ h change => ⟨change.keeps_clockOk h.1, change.keeps_calibratorOk h.1 h.2⟩) ⟨clock, calibrator⟩ next).2

end Sys2Proof.Machine

/-! SUPPORT. The alert's invariant, kept by every change, and its statement (R171, R172). -/

namespace Sys2Proof.Machine

/-- ALERT_N follows the masked flags and an armed alert has none masked: the alert's invariant outside master reset, of the
Status and Alert Unit alone (R171, R172). -/
def StatusUnit.ok (u : StatusUnit) : Prop := u.alertN = u.masked ∧ (u.armed = true → u.masked = false)

theorem State.alertOk_of_live {s : State} (live : s.live) : s.alertOk ↔ s.status.ok :=
  ⟨fun h => ⟨h.1 live, h.2.2⟩, fun h => ⟨fun _ => h.1, fun held => absurd live held, h.2⟩⟩

/-- Every change of a flag or of the mask drives ALERT_N and makes the alert test (R171, R172). -/
theorem StatusUnit.drive_alertTest_ok (u : StatusUnit) (cycle : Word16) : (u.drive.alertTest cycle).ok := by
  refine ⟨?_, u.drive.alertTest_armed cycle⟩
  unfold StatusUnit.alertTest
  split <;> rfl

theorem status_effects : EffectsKeep fun s => s.status.ok where
  tables _ _ _ _ h := h
  raise _ _ _ := StatusUnit.drive_alertTest_ok _ _
  addEntry s e h := by
    unfold State.addEntry
    split
    · exact h
    · exact StatusUnit.drive_alertTest_ok _ _

/-- Every change keeps ALERT_N with the masked flags and an armed alert without one. -/
theorem Change.keeps_status {s t : State} (h : s.status.ok) (change : Change s t) : t.status.ok := by
  have ended : ∀ (u : State) (x : Exchange), u.status.ok → (u.endExchange x).status.ok := by
    intro u x h
    rw [State.endExchange_eq, State.stopIfStopping_status]
    unfold State.probed
    split <;> exact h
  cases change with
  | raise f => exact StatusUnit.drive_alertTest_ok _ _
  | transmit source =>
    cases source <;> simp only [State.takeFrame] <;> split <;> exact h
  | boundary counter untaken =>
    rw [State.boundary_eq]
    dsimp only
    split
    · exact h
    · exact StatusUnit.drive_alertTest_ok _ _
  | start =>
    rw [State.start, State.boundary_eq]
    dsimp only
    split
    · exact h
    · exact StatusUnit.drive_alertTest_ok _ _
  | streamEngine =>
    unfold State.streamEngineBoundary
    split
    · exact status_effects.eachStream _ h
    · exact h
  | assembler =>
    unfold State.assemblerBoundary
    split <;> exact h
  | stop =>
    simp only [State.stop]
    split <;> exact h
  | beaconSent => simpa using h
  | measure =>
    unfold State.measure
    split
    · exact h
    · rw [State.settle_status]
      exact StatusUnit.drive_alertTest_ok _ _
  | failed x how => exact ended _ x (status_effects.failedExchange x how h)
  | replied x r => exact ended _ x (status_effects.validReply x r h)
  | clearFlags => exact StatusUnit.drive_alertTest_ok _ _
  | setMask => exact StatusUnit.drive_alertTest_ok _ _
  | flush =>
    have none : s.flush.status.masked = false := by simp [State.flush, StatusUnit.flush, StatusUnit.masked]
    exact ⟨none.symm, fun _ => none⟩
  | setNode i address => exact status_effects.setNode i address h
  | cancel i p => exact status_effects.resolve i p _ _ h
  | disable => exact status_effects.emit _ h
  | _ => exact h

/-- Settles O56, by the induction over a step: outside master reset the invariant is the Status and Alert Unit's own, and
master reset releases ALERT_N. -/
theorem everyStepKeepsAlert : Obligations.EveryStepKeepsAlert := by
  unfold Obligations.EveryStepKeepsAlert
  intro s t
  refine step_keeps (P := State.alertOk) (fun _ _ h => h) ?hold ?reset ?change
  case hold => exact fun s cause h => ⟨fun live => (by cases live), fun _ => rfl, h.2.2⟩
  case reset => exact fun s cause r1 r0 => (by decide : State.reset.alertOk)
  case change =>
    intro s t live h change
    rw [State.alertOk_of_live live] at h
    rw [State.alertOk_of_live (change.holding.trans live)]
    exact change.keeps_status h

end Sys2Proof.Machine

/-! SUPPORT. The Field Port's invariant, kept by every change, and its statement (Tables 2-1 and 3-1, R4, R30). -/

namespace Sys2Proof.Machine

/-- The port's invariant speaks of the port, the engine's state, the beacon, master reset, and which entries are in use. -/
theorem State.portOk.congr {s t : State} (h : s.portOk) (port : t.port = s.port)
    (engine : t.timer.engine = s.timer.engine) (beacon : t.sched.beacon = s.sched.beacon)
    (holding : t.holding = s.holding)
    (nodes : ∀ i : Fin 32, s.nodes[i].isSome = true → t.nodes[i].isSome = true) : t.portOk := by
  obtain ⟨fldDe, exchange, reply, gap, inUse, rest⟩ := h
  rw [State.portOk, port, engine, beacon, holding]
  exact ⟨fldDe, exchange, reply, gap, fun x flight => nodes x.node (inUse x flight), rest⟩

/-- The end of the port's work leaves it in order, a STOPPING engine HALTED (R30, R51, R55). -/
theorem State.portToIdle_portOk {s : State} (beacon : s.timer.engine ≠ .running → s.sched.beacon = none) :
    s.portToIdle.stopIfStopping.portOk := by
  unfold State.stopIfStopping
  split
  next stopping =>
    have noBeacon := beacon (by rw [show s.timer.engine = .stopping from stopping]; decide)
    exact ⟨rfl, rfl, rfl, fun _ => rfl, nofun, fun _ => rfl, fun _ => noBeacon,
      nofun⟩
  next going =>
    exact ⟨rfl, rfl, rfl, fun _ => rfl, nofun, fun _ => rfl, beacon,
      fun stopping => absurd stopping going⟩

/-- The end of an exchange leaves the port in order (R55). -/
theorem State.endExchange_portOk {s : State} (beacon : s.timer.engine ≠ .running → s.sched.beacon = none)
    (x : Exchange) : (s.endExchange x).portOk := by
  have rest := s.probed_rest x
  rw [State.endExchange_eq]
  apply State.portToIdle_portOk
  rw [show (s.probed x).timer = s.timer from (congrArg State.timer rest :),
    show (s.probed x).sched = s.sched from (congrArg State.sched rest :)]
  exact beacon

/-- An idle port that is ready has no exchange, no timer and no turn gap (R49). -/
theorem State.portOk.ready {s : State} (h : s.portOk) (ready : s.port.ready = true) :
    s.port.state = .idle ∧ s.port.turnGap = none ∧ s.port.exchange = none ∧ s.port.replyTimer = none := by
  obtain ⟨-, exchange, reply, -⟩ := h
  simp only [FieldPort.ready, Bool.and_eq_true, beq_iff_eq, Option.isNone_iff_eq_none] at ready
  rw [ready.1] at exchange reply
  exact ⟨ready.1, ready.2, Option.not_isSome_iff_eq_none.1 (by rw [exchange]; decide),
    Option.not_isSome_iff_eq_none.1 (by rw [reply]; decide)⟩

/-- Outside HALTED a boundary leaves the port as it is. -/
theorem State.portOk.boundary {s : State} (h : s.portOk) (running : s.timer.engine = .running) (untaken : Nat) :
    (s.boundary untaken).portOk := by
  obtain ⟨fldDe, exchange, reply, gap, inUse, -⟩ := h
  rw [State.boundary_eq]
  refine ⟨fldDe, exchange, reply, gap, fun x flight => ?_, ?_, ?_, ?_⟩
  · have entry := inUse x flight
    simpa using entry
  · exact fun halted => by rw [show s.timer.engine = .halted from halted] at running; cases running
  · exact fun stopped => absurd running stopped
  · exact fun stopping => by rw [show s.timer.engine = .stopping from stopping] at running; cases running

@[simp] theorem countDown_isSome (timer : Option Nat) : (countDown timer).isSome = timer.isSome := by
  unfold countDown
  split <;> rfl

/-- Every change keeps the Field Port, its exchange and the engine in agreement. -/
theorem Change.keeps_portOk {s t : State} (h : s.portOk) (change : Change s t) : t.portOk := by
  have ⟨fldDe, exchange, reply, gap, inUse, halted, beacon, stopping⟩ := h
  cases change with
  | transmit => exact h.congr (by simp) (by simp) (by simp) (by simp) (by simp)
  | tick =>
    refine ⟨fldDe, exchange, by simpa using reply, fun some => gap ?_, inUse, halted, beacon, stopping⟩
    rw [← Option.isSome_iff_ne_none] at some ⊢
    simpa using some
  | boundary counter untaken running =>
    exact State.portOk.boundary (s := { s with timer := { s.timer with cycleCounter := counter } }) h running untaken
  | start halt =>
    exact State.portOk.boundary (s := { s with timer := { s.timer with engine := .running, cycleCounter := 0 } })
      ⟨fldDe, exchange, reply, gap, inUse, nofun, fun stopped => absurd rfl stopped,
        nofun⟩ rfl 0
  | streamEngine => exact h.congr (by simp) (by simp) (by simp) (by simp) (by simp)
  | assembler => exact h.congr (by simp) (by simp) (by simp) (by simp) (by simp)
  | stop running taken =>
    simp only [State.stop]
    split
    next idle => exact ⟨fldDe, exchange, reply, gap, inUse, fun _ => idle, fun _ => rfl, nofun⟩
    next busy => exact ⟨fldDe, exchange, reply, gap, inUse, nofun, fun _ => rfl, fun _ _ => busy⟩
  | beaconBegin cycle ready running =>
    obtain ⟨idle, noGap, noExchange, noReply⟩ := h.ready ready
    refine ⟨rfl, ?_, ?_, fun some => absurd noGap some, inUse, ?_, fun _ => rfl, ?_⟩
    · rw [noExchange]; rfl
    · rw [noReply]; rfl
    · exact fun halt => by rw [show s.timer.engine = .halted from halt] at running; cases running
    · exact fun stop => by rw [show s.timer.engine = .stopping from stop] at running; cases running
  | beaconSent => exact State.portToIdle_portOk beacon
  | walk => exact h
  | poll position i probe e ready running taken entry =>
    obtain ⟨idle, noGap, noExchange, noReply⟩ := h.ready ready
    refine ⟨rfl, rfl, ?_, fun some => absurd noGap some, ?_, ?_, beacon, ?_⟩
    · simp only [State.beginPoll, State.modifyNode_port, noReply]
      rfl
    · rintro _ ⟨⟩
      simp [State.beginPoll, entry]
    · exact fun halt => by rw [show s.timer.engine = .halted from halt] at running; cases running
    · exact fun stop => by rw [show s.timer.engine = .stopping from stop] at running; cases running
  | pollSent frame sending poll =>
    rw [sending] at gap exchange halted
    refine ⟨rfl, ?_, rfl, fun some => absurd (gap some) (by simp), inUse, fun halt => absurd (halted halt) (by simp),
      beacon, fun _ _ => by simp⟩
    rw [exchange]
    simp [PortState.exchanging, poll]
  | await n m awaiting =>
    rw [awaiting] at fldDe exchange reply gap halted
    exact ⟨fldDe, exchange, reply, fun some => absurd (gap some) (by simp), inUse,
      fun halt => absurd (halted halt) (by simp), beacon, fun _ _ => by simp⟩
  | delimiter n awaiting =>
    rw [awaiting] at fldDe exchange gap halted
    exact ⟨fldDe, exchange, rfl, fun some => absurd (gap some) (by simp), inUse,
      fun halt => absurd (halted halt) (by simp), beacon, fun _ _ => by simp⟩
  | decode rx rx' receiving =>
    rw [receiving] at fldDe exchange reply gap halted
    exact ⟨fldDe, exchange, reply, fun some => absurd (gap some) (by simp), inUse,
      fun halt => absurd (halted halt) (by simp), beacon, fun _ _ => by simp⟩
  | measure => exact h.congr (by simp) (by simp) (by simp) (by simp) (by simp)
  | failed x how => exact State.endExchange_portOk (by simpa using beacon) x
  | replied x r => exact State.endExchange_portOk (by simpa using beacon) x
  | released none exchanging =>
    rw [none, exchanging] at exchange
    cases exchange
  | turnGapEnd => exact ⟨fldDe, exchange, reply, fun some => absurd rfl some, inUse, halted, beacon, stopping⟩
  | flush =>
    exact ⟨rfl, rfl, rfl, fun some => absurd rfl some, nofun, fun _ => rfl, fun _ => rfl,
      nofun⟩
  | setTiming => exact h.congr rfl rfl rfl rfl (fun i entry => by simpa [State.setTiming] using entry)
  | setNode i address =>
    have fresh : (s.withFreshNode i address).portOk := by
      refine h.congr rfl rfl rfl rfl fun j entry => ?_
      by_cases same : i = j
      · subst same
        simp [State.withFreshNode]
      · have : (i : Nat) ≠ j := fun eq => same (Fin.ext eq)
        simpa [State.withFreshNode, this] using entry
    by_cases free : s.nodes[i] = none
    · rwa [State.setNode_of_free free]
    · rw [State.setNode_of_inUse free]
      exact fresh.congr (by simp [State.resetStreams]) (by simp [State.resetStreams]) (by simp [State.resetStreams])
        (by simp [State.resetStreams]) (by simp [State.resetStreams])
  | freeNode i unbound unused =>
    refine ⟨fldDe, exchange, reply, gap, fun x flight => ?_, halted, beacon, stopping⟩
    have other : (i : Nat) ≠ x.node := fun eq =>
      unused (State.inFlight_iff.2 ⟨x, flight, (Fin.ext eq).symm⟩)
    simpa [other] using inUse x flight
  | clearNode i => exact h.congr rfl rfl rfl rfl fun j entry => (s.modifyNode_isSome i j _).trans entry
  | fill i => exact h.congr rfl rfl rfl rfl fun j entry => (s.modifyNode_isSome i j _).trans entry
  | cancel i p =>
    refine h.congr (by simp) (by simp) (by simp) (by simp) fun j entry => ?_
    simpa [State.resolve] using (s.modifyNode_isSome i j _).trans entry
  | disable => exact h.congr (by simp) (by simp) (by simp) (by simp) (by simp)
  | _ => exact h

/-- Master reset abandons the port's work (R177). -/
theorem State.portOk.hold {s : State} (h : s.portOk) (cause : ResetCause) : (s.hold cause).portOk := by
  obtain ⟨-, -, -, -, -, -, beacon, -⟩ := h
  exact ⟨rfl, rfl, rfl, fun some => absurd rfl some, nofun, fun _ => rfl, beacon, nofun⟩

/-- The end of master reset gives an idle port and a HALTED engine (R177). -/
theorem State.afterReset_portOk (s : State) (cause : ResetCause) (rate1 rate0 : Bool) :
    (s.afterReset cause rate1 rate0).portOk :=
  ⟨rfl, rfl, rfl, fun some => absurd rfl some, nofun, fun _ => rfl, fun _ => rfl, nofun⟩

/-- Settles O57, by the induction over a step. -/
theorem everyStepKeepsPort : Obligations.EveryStepKeepsPort := by
  unfold Obligations.EveryStepKeepsPort
  intro s t
  exact step_keeps (P := State.portOk) (fun _ _ h => h) (fun _ cause h => h.hold cause) State.afterReset_portOk
    fun _ _ _ h => Change.keeps_portOk h

end Sys2Proof.Machine

/-! SUPPORT. The outcomes of an exchange at the polled node's entry: a failed exchange below the limit and at it, the stages of a
valid reply with the entry each leaves, the end of an exchange, and the statements on them (R6 to R15, R154 to R160). -/

namespace Sys2Proof.Machine

/-! ## An entry changed twice -/

theorem State.modifyNode_modifyNode (s : State) (i : Fin 32) (f g : NodeEntry → NodeEntry) :
    (s.modifyNode i f).modifyNode i g = s.modifyNode i (g ∘ f) := by
  simp [State.modifyNode, Vector.set_set]

/-! ## A failed exchange (R13 to R15, R159, R160) -/

/-- The counters after a failed exchange (R13). -/
def NodeCounters.failed (c : NodeCounters) : Failure → NodeCounters
  | .timeout => { c with timeouts := bump c.timeouts }
  | .spoiled => { c with spoiled := bump c.spoiled }

theorem NodeEntry.countFailure_eq (e : NodeEntry) (how : Failure) :
    e.countFailure how = { e with counters := e.counters.failed how } := by
  cases how <;> rfl

/-- The counters that the statements describe are those of `NodeCounters.failed`. -/
theorem NodeCounters.eq_failed {c counters : NodeCounters} {how : Failure}
    (timeout : how = .timeout → counters = { c with timeouts := bump c.timeouts })
    (spoiled : how = .spoiled → counters = { c with spoiled := bump c.spoiled }) : counters = c.failed how := by
  cases how with
  | timeout => exact timeout rfl
  | spoiled => exact spoiled rfl

section Failed
variable {s : State} {x : Exchange} {e : NodeEntry} (entry : s.nodes[x.node] = some e) (how : Failure)
include entry

theorem State.failedExchange_of_down (down : e.state = .down) :
    s.failedExchange x how =
      { s with nodes := s.nodes.set x.node (some { e with counters := e.counters.failed how }) } := by
  simp only [State.failedExchange, entry, if_pos down]
  rw [State.modifyNode_of_inUse entry, NodeEntry.countFailure_eq]

/-- The entry of a node that failed an exchange below the limit, its payload aside (R13). -/
def NodeEntry.failedBelow (e : NodeEntry) (how : Failure) : NodeEntry :=
  { e with state := e.state.failed, retryCount := e.retryCount + 1, counters := e.counters.failed how }

theorem State.failedExchange_of_below (notDown : e.state ≠ .down) (below : e.retryCount + 1 < s.timer.timing.retryLimit) :
    s.failedExchange x how =
      ({ s with nodes := s.nodes.set x.node (some (e.failedBelow how)) } : State).failedAttempt x.node e x.carried := by
  simp only [State.failedExchange, entry, if_neg notDown, State.modifyNode_modifyNode, State.modifyNode_timer,
    min_eq_left below.le, if_pos below]
  rw [State.modifyNode_of_inUse entry]
  rfl

theorem State.failedExchange_of_limit (notDown : e.state ≠ .down)
    (limit : s.timer.timing.retryLimit ≤ e.retryCount + 1) :
    s.failedExchange x how =
      ({ s with nodes := s.nodes.set x.node (some { e with
        retryCount := s.timer.timing.retryLimit, counters := e.counters.failed how }) } : State).goDown x.node e := by
  simp only [State.failedExchange, entry, if_neg notDown, State.modifyNode_modifyNode, State.modifyNode_timer,
    min_eq_right limit, lt_irrefl, if_false]
  rw [State.modifyNode_of_inUse entry]
  rfl

end Failed

/-- A payload that stays in its slot, or that was carried in vain as often as it may be (R159). -/
theorem State.failedAttempt_of_kept {s : State} (i : Fin 32) {e : NodeEntry} {carried : Bool}
    (kept : ∀ p, e.slot = some p → carried = true → p.attempts ≠ s.timer.timing.deliverLimit) :
    s.failedAttempt i e carried = s := by
  unfold State.failedAttempt
  split
  next p slot => exact if_neg fun last => kept p slot last.1 last.2
  · rfl

theorem State.failedAttempt_of_last {s : State} (i : Fin 32) {e : NodeEntry} {p : DownPayload} (slot : e.slot = some p)
    (last : p.attempts = s.timer.timing.deliverLimit) : s.failedAttempt i e true = s.resolve i p .expired true := by
  simp only [State.failedAttempt, slot, last, and_self, if_true]

/-- The DOWN transition in its first four steps: the entry DOWN, the NODE entry and flag, the streams suspended (R14). -/
def State.downed (s : State) (i : Fin 32) (e : NodeEntry) : State :=
  ({ s with nodes := s.nodes.set i (some { e with
      state := .down, probeCountdown := s.timer.timing.probeInterval }) }.emit
    [.add (.nodeDown i), .raise .node]).suspendStreams i

section Down
variable {s : State} {i : Fin 32} {e before : NodeEntry} (entry : s.nodes[i] = some e)
include entry

/-- The DOWN transition of an entry that held no payload before the exchange (R14). -/
theorem State.goDown_of_empty (slot : before.slot = none) : s.goDown i before = s.downed i e := by
  simp only [State.goDown, State.downed, slot, State.modifyNode_of_inUse entry]

/-- The DOWN transition of an entry, with the payload that it held before the exchange (R14, R160). -/
theorem State.goDown_of_payload {p : DownPayload} (slot : before.slot = some p) :
    s.goDown i before = (s.downed i e).resolve i p .nodeDown (0 < p.attempts) := by
  simp only [State.goDown, State.downed, slot, State.modifyNode_of_inUse entry]

end Down

/-! ## The statements on a failed exchange -/

/-- Settles O20: the DOWN node's entry, and the entry below the limit with its payload kept or expired. -/
theorem failedExchangeAdvancesRetryCount : Obligations.FailedExchangeAdvancesRetryCount := by
  unfold Obligations.FailedExchangeAdvancesRetryCount
  refine fun s x how e entry => ⟨e.counters.failed how, ?_, ?_, State.failedExchange_of_down entry how,
    fun notDown below => ⟨e.state.failed, ?_, ?_, fun kept => ?kept, fun p slot carried last => ?expired⟩⟩
  · rintro rfl; rfl
  · rintro rfl; rfl
  · intro unknown
    rw [unknown]; rfl
  · intro known
    cases state : e.state with
    | unknown => exact absurd state known
    | down => exact absurd state notDown
    | up | suspect => rfl
  case kept =>
    rw [State.failedExchange_of_below entry how notDown below]
    exact State.failedAttempt_of_kept x.node kept
  case expired =>
    rw [State.failedExchange_of_below entry how notDown below, carried, State.failedAttempt_of_last x.node slot,
      State.resolve, State.modifyNode_of_inUse (e := e.failedBelow how) (by simp)]
    · simp only [Vector.set_set]
      rfl
    · exact last

/-- Settles O21: a stream put aside, the RELEASE of a trip, and the DOWN transition of the entry at its limit. -/
theorem retryLimitMakesNodeDown : Obligations.RetryLimitMakesNodeDown := by
  unfold Obligations.RetryLimitMakesNodeDown
  refine ⟨?aside, ?release, ?limit⟩
  case aside =>
    rintro c state _ rfl
    exact ⟨fun inside => StreamCtx.setAside_of_inside inside state, fun trip => StreamCtx.setAside_of_trip trip state⟩
  case release =>
    exact fun r i cause => ⟨fun inside => StreamRun.releaseFor_of_inside inside i cause,
      fun above => StreamRun.releaseFor_of_trip (.inl ⟨above, rfl⟩) i cause,
      fun below => StreamRun.releaseFor_of_trip (.inr ⟨below, rfl⟩) i cause⟩
  case limit =>
    rintro s x how e counters _ entry notDown limit timeout spoiled rfl
    obtain rfl := NodeCounters.eq_failed timeout spoiled
    have failed := State.failedExchange_of_limit entry how notDown limit
    refine ⟨fun slot => ?none, fun p slot => ?some⟩
    case none =>
      rw [failed, State.goDown_of_empty (e := { e with
        retryCount := s.timer.timing.retryLimit, counters := e.counters.failed how }) (by simp) slot, State.downed]
      simp only [Vector.set_set]
      rfl
    case some =>
      rw [failed, State.goDown_of_payload (e := { e with
        retryCount := s.timer.timing.retryLimit, counters := e.counters.failed how }) (by simp) slot, State.downed]
      simp only [Vector.set_set, State.resolve, NodeEntry.emptySlot_of_attempts]
      rfl

/-! ## The stages of a valid reply (R7 to R12, R156 to R158) -/

/-- Stage 1 with the entry known: the entry UP, its NODE entry, and the resume of the streams of a DOWN node (R7). -/
theorem State.stageLiveness_eq {s : State} {i : Fin 32} {e : NodeEntry} (entry : s.nodes[i] = some e)
    (before : NodeState) (f : Bool) (up : State)
    (eq : up = { s with nodes := s.nodes.set i (some { e with state := .up, retryCount := 0 }) }) :
    s.stageLiveness i before f =
      if before = .down
      then (up.emit ((livenessEntry before f).toList.map fun reason => .add (.nodeUp i reason))).resumeStreams i
      else up.emit ((livenessEntry before f).toList.map fun reason => .add (.nodeUp i reason)) := by
  rw [State.stageLiveness, State.modifyNode_of_inUse entry, eq]

/-- Settles O22: the liveness stage for each State that the node had before. -/
theorem validReplyMakesNodeUp : Obligations.ValidReplyMakesNodeUp := by
  unfold Obligations.ValidReplyMakesNodeUp
  intro s x r e entry up eq
  rw [State.stageLiveness_eq entry e.state r.f up eq]
  refine ⟨fun unknown => ?_, fun alive restart => ?_, fun alive noRestart => ?_, fun down => ?_⟩
  · rw [unknown]; rfl
  · obtain alive | alive := alive <;> rw [alive, restart] <;> rfl
  · obtain alive | alive := alive <;> rw [alive, noRestart] <;> rfl
  · rw [down]; rfl

theorem State.stageRestart_of_false (s : State) (i : Fin 32) (before : NodeState) : s.stageRestart i before false = s :=
  rfl

theorem State.stageRestart_of_true (s : State) (i : Fin 32) (before : NodeState) :
    s.stageRestart i before true = if before = .down then s.modifyNode i NodeEntry.restartIndicated
      else (s.modifyNode i NodeEntry.restartIndicated).restartStreams i := rfl

/-- Settles O23: the stages in their order, and the restart indication and the hold record at every value. -/
theorem validReplyRunsItsStages : Obligations.ValidReplyRunsItsStages := by
  unfold Obligations.ValidReplyRunsItsStages
  refine ⟨?stages, fun s i before => s.stageRestart_of_false i before, ?indicated, ?hold⟩
  case stages =>
    rintro s x r e _ _ _ _ entry rfl rfl rfl rfl
    refine ⟨fun sBit payload data => ?_, fun other => ?_⟩
    · simp only [State.validReply, entry, data]
    · obtain idle | hold := other
      · simp only [State.validReply, entry, idle]
      · simp only [State.validReply, entry, hold]
  case indicated =>
    rintro s i before _ rfl
    rw [State.stageRestart_of_true]
    exact ⟨fun down => if_pos down, fun up => if_neg up⟩
  case hold => exact fun e => ⟨rfl, rfl, fun _ _ => rfl⟩

/-- Stage 4 on an entry that is in use (R156). -/
theorem State.stageA_eq {s : State} {i : Fin 32} {e : NodeEntry} (entry : s.nodes[i] = some e) (kind : ReplyKind)
    (a carried : Bool) : s.stageA i kind a carried =
      ({ s with nodes := s.nodes.set i (some (e.answered carried)) } : State).evaluateA i (e.answered carried) kind a := by
  simp [State.stageA, State.modifyNode_of_inUse entry]

theorem State.put_same {s : State} {i : Fin 32} {e : NodeEntry} (entry : s.nodes[i] = some e) :
    ({ s with nodes := s.nodes.set i (some e) } : State) = s := by
  rw [← entry]
  simp

theorem State.protocolError_eq {s : State} {i : Fin 32} {e : NodeEntry} (entry : s.nodes[i] = some e) :
    s.protocolError i = ({ s with nodes := s.nodes.set i (some { e with counters := { e.counters with
      protocolErrors := bump e.counters.protocolErrors } }) } : State).raise .proto := by
  rw [State.protocolError, State.modifyNode_of_inUse entry]
  rfl

/-! ### The rows of Table 9-1 -/

section Rows
variable {s : State} {i : Fin 32} {e : NodeEntry} {kind : ReplyKind} {a : Bool}

theorem State.evaluateA_of_slot {p : DownPayload} (slot : e.slot = some p) : s.evaluateA i e kind a =
    if a = e.sendTx then s.notTaken i e p kind
    else if 0 < p.attempts then
      (s.modifyNode i fun e => { e with slot := none, sendTx := !e.sendTx }).emit (deliveryEffects i p .delivered)
    else s.protocolError i := by
  simp only [State.evaluateA, slot]

theorem State.evaluateA_of_late {tag : Word16} (slot : e.slot = none) (resync : e.resync = some tag) :
    s.evaluateA i e kind a =
      if a = e.sendTx then s.modifyNode i fun e => { e with resync := none }
      else (s.modifyNode i fun e => { e with resync := none, sendTx := !e.sendTx }).emit
        [.add (.delivery i tag .late 0)] := by
  simp only [State.evaluateA, slot, resync]

theorem State.evaluateA_of_none (slot : e.slot = none) (resync : e.resync = none) :
    s.evaluateA i e kind a = if a = e.sendTx then s else s.protocolError i := by
  simp only [State.evaluateA, slot, resync]

end Rows

/-- Settles O24: the answered payload, and each row of Table 9-1. -/
theorem aBitSettlesTheDownlink : Obligations.ABitSettlesTheDownlink := by
  unfold Obligations.ABitSettlesTheDownlink
  intro s i e kind a entry put put_eq
  refine ⟨?answered, ?unanswered, ?rows⟩
  case answered =>
    rintro _ rfl
    rw [State.stageA_eq entry, put_eq]
    rfl
  case unanswered =>
    rw [State.stageA_eq entry]
    exact congrArg (fun t : State => t.evaluateA i e kind a) (State.put_same entry)
  case rows =>
    rintro _ rfl
    simp only [put_eq]
    refine ⟨fun p slot => ?payload, fun slot tag resync => ?late, fun slot resync => ?empty⟩
    case payload =>
      rw [State.evaluateA_of_slot slot]
      refine ⟨fun ne taken => ?_, fun ne none => ?_, fun eq hold limit => ?_, fun eq notHeld last answered => ?_,
        fun eq notHeld more => ?_⟩
      · rw [if_neg ne, if_pos taken, State.modifyNode_of_inUse entry]
        rfl
      · rw [if_neg ne, if_neg (by omega), State.protocolError_eq entry]
      · rw [if_pos eq, State.notTaken, if_pos ⟨hold, limit⟩, State.resolve, State.modifyNode_of_inUse entry]
        rfl
      · rw [if_pos eq, State.notTaken, if_neg notHeld, if_pos ⟨last, answered⟩, State.resolve,
          State.modifyNode_of_inUse entry]
        rfl
      · rw [if_pos eq, State.notTaken, if_neg notHeld, if_neg more]
    case late =>
      rw [State.evaluateA_of_late slot resync]
      refine ⟨fun ne => ?_, fun eq => ?_⟩
      · rw [if_neg ne, State.modifyNode_of_inUse entry]
      · rw [if_pos eq, State.modifyNode_of_inUse entry]
    case empty =>
      rw [State.evaluateA_of_none slot resync]
      refine ⟨fun ne => ?_, fun eq => if_pos eq⟩
      rw [if_neg ne, State.protocolError_eq entry]

/-! ## A DATA reply (R10 to R12, R184) -/

theorem blockList_of_length {payload : List Byte} (bad : payload.length = 0 ∨ 512 < payload.length) :
    blockList payload = none := by
  rw [List.length_eq_zero_iff] at bad
  exact if_pos bad

theorem blockList_of_fits {payload : List Byte} (some : 1 ≤ payload.length) (fits : payload.length ≤ 512) :
    blockList payload = readBlocks 8 payload := by
  have good : ¬ (payload = [] ∨ Config.blockListBytes < payload.length) := by
    rw [← List.length_eq_zero_iff, Config.blockListBytes]
    omega
  exact if_neg good

/-- One or two bytes are no header of a block (R184). -/
theorem readBlocks_of_short (room : Nat) {payload : List Byte} (short : payload.length = 1 ∨ payload.length = 2) :
    readBlocks room payload = none := by
  cases room with
  | zero =>
    cases payload with
    | nil => simp at short
    | cons => rfl
  | succ room =>
    match payload, short with
    | [_], _ => rfl
    | [_, _], _ => rfl

/-- A block's header and content, when its count is right and the bytes suffice (R184). -/
theorem readBlocks_cons (room : Nat) (head c1 c0 : Byte) (rest : List Byte) :
    readBlocks (room + 1) (head :: c1 :: c0 :: rest) =
      match contentBytes (blockKind head) (word16 c1 c0).toNat with
      | none => none
      | some n =>
        if rest.length < n then none
        else (readBlocks room (rest.drop n)).map
          ({ tag := blockTag head, kind := blockKind head, content := rest.take n } :: ·) := rfl

/-- The tag is a header byte's lowest three bits (Table 11-8). -/
theorem blockTag_eq {head : Byte} {tag : Fin 8} (h : (tag : Nat) = head.toNat % 8) : blockTag head = tag := by
  apply Fin.ext
  rw [h]
  simp [blockTag]

/-- A count is right when it names content, in whole bytes for bits, and is within its limit (R184). -/
theorem contentBytes_eq {kind : Kind} {count content : Nat}
    (h : (kind = .bits ∧ content = count / 8) ∨ (kind = .words ∧ content = 2 * count)) :
    contentBytes kind count =
      if count ≠ 0 ∧ (kind = .bits → count % 8 = 0 ∧ count ≤ 2048) ∧ (kind = .words → count ≤ 128)
      then some content else none := by
  obtain ⟨rfl, rfl⟩ | ⟨rfl, rfl⟩ := h
  · simp only [contentBytes]
    by_cases bad : count = 0 ∨ count % 8 ≠ 0 ∨ 2048 < count
    · rw [if_pos bad, if_neg (by simp; omega)]
    · rw [if_neg bad, if_pos (by simp; omega)]
  · simp only [contentBytes]
    by_cases bad : count = 0 ∨ 128 < count
    · rw [if_pos bad, if_neg (by simp; omega)]
    · rw [if_neg bad, if_pos (by simp; omega)]

section Data
variable {s : State} {i : Fin 32} {payload : List Byte}

/-- An answer to a POLL with G = 0 is a protocol error, and is otherwise handled as with G = 1 (R11). -/
theorem State.stageData_of_false (sBit : Bool) :
    s.stageData i false sBit payload = (s.protocolError i).stageData i true sBit payload := by
  unfold State.stageData
  cases blockList payload <;> rfl

theorem State.stageData_of_malformed (sBit : Bool) (malformed : blockList payload = none) :
    s.stageData i true sBit payload = s.protocolError i := by
  simp only [State.stageData, malformed, if_true]

theorem State.stageData_of_blocks (sBit : Bool) {blocks : List Block} (wellFormed : blockList payload = some blocks) :
    s.stageData i true sBit payload = s.sequenceCheck i sBit blocks := by
  simp only [State.stageData, wellFormed, if_true]

end Data

/-- Settles O25: the reading of a block list clause by clause, and the three checks of the DATA stage. -/
theorem dataReplyIsCheckedAndSequenced : Obligations.DataReplyIsCheckedAndSequenced := by
  unfold Obligations.DataReplyIsCheckedAndSequenced
  refine ⟨⟨fun payload => ⟨blockList_of_length, blockList_of_fits, fun some => ?noRoom, fun room =>
    ⟨fun none => ?done, readBlocks_of_short room⟩⟩, ?block⟩, ?stage⟩
  case noRoom =>
    cases payload with
    | nil => exact absurd rfl some
    | cons => rfl
  case done =>
    rw [List.length_eq_zero_iff.1 none]
    cases room <;> rfl
  case block =>
    rintro room _ content head c1 c0 rest tag kind rfl tagEq kindEq fits fits_iff
    have read : blockKind head = kind := by
      obtain ⟨rfl, top, -⟩ | ⟨rfl, top, -⟩ := kindEq <;> simp only [blockKind, top] <;> rfl
    have bytes := contentBytes_eq (kind := kind) (count := (word16 c1 c0).toNat) (content := content)
      (kindEq.imp (fun h => ⟨h.1, h.2.2⟩) (fun h => ⟨h.1, h.2.2⟩))
    rw [fits_iff, readBlocks_cons, read, bytes, blockTag_eq tagEq]
    constructor
    · intro bad
      split
      · rfl
      next n right =>
        split at right <;> cases right
        next right => exact if_pos (Nat.lt_of_not_le fun enough => bad ⟨right.1, right.2.1, right.2.2, enough⟩)
    · rintro ⟨some, bits, words, enough⟩
      rw [if_pos ⟨some, bits, words⟩]
      exact if_neg (Nat.not_lt.2 enough)
  case stage =>
    intro s i sBit payload e entry put put_eq
    simp only [put_eq]
    refine ⟨?_, fun malformed => ?_, fun blocks wellFormed same => ?_, fun blocks wellFormed differs => ?_⟩
    · rw [State.stageData_of_false, State.protocolError_eq entry]
    · rw [State.stageData_of_malformed sBit malformed, State.protocolError_eq entry]
    · rw [State.stageData_of_blocks sBit wellFormed]
      simp only [State.sequenceCheck, entry, if_pos same, State.modifyNode_of_inUse entry]
      rfl
    · rw [State.stageData_of_blocks sBit wellFormed]
      simp only [State.sequenceCheck, entry, if_neg differs, State.modifyNode_of_inUse entry]
      rfl

/-! ## The end of an exchange (R30, R38, R55) -/

theorem UplinkQueue.close_of_none {q : UplinkQueue} (none : q.openFrame = none) (flags : CloseFlags → CloseFlags) :
    q.close flags = q := by
  simp only [UplinkQueue.close, none]

theorem UplinkQueue.close_of_some {q : UplinkQueue} {f : ReportFrame} (isOpen : q.openFrame = some f)
    (flags : CloseFlags → CloseFlags) :
    q.close flags = { q with closed := q.closed ++ [{ f with flags := flags f.flags }], openFrame := none } := by
  simp only [UplinkQueue.close, isOpen]

theorem State.stopIfStopping_of_stopping {s : State} (stopping : s.timer.engine = .stopping) :
    s.stopIfStopping = s.enterHalted := if_pos stopping

theorem State.stopIfStopping_of_going {s : State} (going : s.timer.engine ≠ .stopping) : s.stopIfStopping = s :=
  if_neg going

/-- The end of an exchange changes the node table for a probe only (R38). -/
theorem State.probed_eq (s : State) (x : Exchange) : s.probed x = { s with nodes := (s.probed x).nodes } := by
  unfold State.probed
  split <;> rfl

theorem State.probed_get (s : State) (x : Exchange) (i : Fin 32) : (s.probed x).nodes[i] =
    if x.probe = true ∧ i = x.node then
      s.nodes[i].map fun e => { e with probeCountdown := s.timer.timing.probeInterval }
    else s.nodes[i] := by
  unfold State.probed
  by_cases probe : x.probe = true
  · by_cases node : i = x.node
    · subst node
      rw [if_pos probe, if_pos ⟨probe, rfl⟩, State.modifyNode_get_self]
    · rw [if_pos probe, if_neg (fun h => node h.2), State.modifyNode_get_ne s (Ne.symm node)]
  · rw [if_neg probe, if_neg (fun h => probe h.1)]

/-- Settles O19: the frame closed or not, the node table after a probe, and the engine that stops. -/
theorem exchangeEndReleasesThePort : Obligations.ExchangeEndReleasesThePort := by
  unfold Obligations.ExchangeEndReleasesThePort
  refine ⟨fun q flags => ⟨fun none => q.close_of_none none flags, fun f isOpen => q.close_of_some isOpen flags⟩,
    fun s x => ⟨(s.probed x).nodes, s.probed_get x, _, rfl, fun going => ?going, fun stopping => ?stopping⟩⟩
  case going =>
    rw [State.endExchange_eq, State.probed_eq]
    exact State.stopIfStopping_of_going going
  case stopping =>
    rw [State.endExchange_eq, State.probed_eq]
    exact State.stopIfStopping_of_stopping stopping

end Sys2Proof.Machine

/-! SUPPORT. The node table's invariant, kept by every change, and its statement (R1, R3, R13, R151, R154). -/

namespace Sys2Proof.Machine

/-! ## An entry in order -/

/-- An entry in order under timing parameters, its payload's Attempts at DeliverLimit only when `last` stands: the invariant
of an entry, without the state (R1, R13, R151, R154). -/
structure NodeEntry.inOrder (e : NodeEntry) (t : Timing) (last : Prop) : Prop where
  address : 1 ≤ e.address.toNat ∧ e.address.toNat ≤ 126
  retryCount : e.retryCount ≤ t.retryLimit
  holdCount : e.holdCount ≤ 255
  probeCountdown : e.probeCountdown ≤ 255
  down : e.state = .down → e.slot = none
  resync : e.slot ≠ none → e.resync = none
  length : ∀ p ∈ e.slot, 1 ≤ p.payload.length ∧ p.payload.length ≤ Config.payloadBytes
  attempts : ∀ p ∈ e.slot, p.attempts ≤ t.deliverLimit
  atLimit : ∀ p ∈ e.slot, p.attempts = t.deliverLimit → last

/-- The last attempt at a node's payload may be in flight: an exchange that carried it is, or master reset has cut it off. -/
def State.attempting (s : State) (i : Fin 32) : Prop :=
  s.holding = none → ∃ x ∈ s.port.exchange, x.node = i ∧ x.carried = true

theorem State.entryOk_iff {s : State} {i : Fin 32} {e : NodeEntry} :
    s.entryOk i e ↔ e.inOrder s.timer.timing (s.attempting i) := by
  constructor
  · rintro ⟨address, retry, hold, probe, down, resync, slot⟩
    exact ⟨address, retry, hold, probe, down, resync, fun p mem => (slot p mem).1, fun p mem => (slot p mem).2.1,
      fun p mem => (slot p mem).2.2⟩
  · rintro ⟨address, retry, hold, probe, down, resync, length, attempts, atLimit⟩
    exact ⟨address, retry, hold, probe, down, resync, fun p mem => ⟨length p mem, attempts p mem, atLimit p mem⟩⟩

theorem NodeEntry.inOrder.mono {e : NodeEntry} {t : Timing} {last last' : Prop} (h : e.inOrder t last)
    (weaker : last → last') : e.inOrder t last' :=
  ⟨h.address, h.retryCount, h.holdCount, h.probeCountdown, h.down, h.resync, h.length, h.attempts,
    fun p mem eq => weaker (h.atLimit p mem eq)⟩

/-- What the invariant reads of an entry: a change of the other fields keeps it. -/
theorem NodeEntry.inOrder.congr {e e' : NodeEntry} {t : Timing} {last : Prop} (h : e.inOrder t last)
    (address : e'.address = e.address) (retryCount : e'.retryCount ≤ t.retryLimit) (holdCount : e'.holdCount ≤ 255)
    (probeCountdown : e'.probeCountdown ≤ 255) (down : e'.state = .down → e.state = .down)
    (resync : e'.resync = e.resync) (slot : e'.slot = e.slot) : e'.inOrder t last :=
  ⟨address ▸ h.address, retryCount, holdCount, probeCountdown, fun d => slot.trans (h.down (down d)),
    fun some => resync.trans (h.resync (slot ▸ some)), slot ▸ h.length, slot ▸ h.attempts, slot ▸ h.atLimit⟩

/-- An entry with an empty slot is in order by its counts alone. -/
theorem NodeEntry.inOrder.emptied {e e' : NodeEntry} {t : Timing} {last last' : Prop} (h : e.inOrder t last)
    (slot : e'.slot = none) (address : e'.address = e.address) (retryCount : e'.retryCount ≤ t.retryLimit)
    (holdCount : e'.holdCount ≤ 255) (probeCountdown : e'.probeCountdown ≤ 255) : e'.inOrder t last' :=
  ⟨address ▸ h.address, retryCount, holdCount, probeCountdown, fun _ => slot, fun some => absurd slot some,
    fun p mem => by simp [slot] at mem, fun p mem => by simp [slot] at mem, fun p mem => by simp [slot] at mem⟩

/-- A node table is in order when each of its entries is, and comes from one with the same Address. -/
theorem State.nodesOk.of_entries {s t : State} (h : s.nodesOk) (entries : ∀ (i : Fin 32) (e' : NodeEntry),
    t.nodes[i] = some e' → ∃ e, s.nodes[i] = some e ∧ e'.address = e.address ∧
      (e.inOrder s.timer.timing (s.attempting i) → e'.inOrder t.timer.timing (t.attempting i))) : t.nodesOk := by
  refine ⟨fun i e' mem => ?_, fun i j ne e' mem f' memF => ?_⟩
  · obtain ⟨e, old, -, keep⟩ := entries i e' mem
    exact State.entryOk_iff.2 (keep (State.entryOk_iff.1 (h.1 i e old)))
  · obtain ⟨e, old, address, -⟩ := entries i e' mem
    obtain ⟨f, oldF, addressF, -⟩ := entries j f' memF
    rw [address, addressF]
    exact h.2 i j ne e old f oldF

/-- The invariant of the node table speaks of the entries, the limits, master reset and the exchange in flight only. -/
theorem State.nodesOk.congr {s t : State} (h : s.nodesOk) (nodes : t.nodes = s.nodes)
    (timing : t.timer.timing = s.timer.timing) (holding : t.holding = s.holding)
    (exchange : t.port.exchange = s.port.exchange) : t.nodesOk := by
  have same : ∀ i, t.attempting i = s.attempting i := fun i => by rw [State.attempting, holding, exchange]; rfl
  exact h.of_entries fun i e' mem => ⟨e', nodes ▸ mem, rfl, by rw [timing, same]; exact id⟩

/-- One entry changed, with the limits, master reset and the exchange in flight as they were. -/
theorem State.nodesOk.modifyNode {s : State} (h : s.nodesOk) (i : Fin 32) (f : NodeEntry → NodeEntry)
    (keep : ∀ e, s.nodes[i] = some e → (f e).address = e.address ∧
      (e.inOrder s.timer.timing (s.attempting i) → (f e).inOrder s.timer.timing (s.attempting i))) :
    (s.modifyNode i f).nodesOk := by
  refine h.of_entries fun j e' mem => ?_
  by_cases same : i = j
  · subst same
    rw [State.modifyNode_get_self, Option.map_eq_some_iff] at mem
    obtain ⟨e, entry, rfl⟩ := mem
    exact ⟨e, entry, keep e entry⟩
  · rw [State.modifyNode_get_ne s same] at mem
    exact ⟨e', mem, rfl, id⟩

/-- Every entry changed, with the limits, master reset and the exchange in flight as they were. -/
theorem State.nodesOk.map {s t : State} (h : s.nodesOk) (f : NodeEntry → NodeEntry)
    (nodes : t.nodes = s.nodes.map fun e => e.map f)
    (keep : ∀ i e, (f e).address = e.address ∧
      (e.inOrder s.timer.timing (s.attempting i) → (f e).inOrder t.timer.timing (t.attempting i))) : t.nodesOk := by
  refine h.of_entries fun i e' mem => ?_
  rw [nodes, show (s.nodes.map fun e => e.map f)[i] = s.nodes[i].map f from Vector.getElem_map _ i.isLt,
    Option.map_eq_some_iff] at mem
  obtain ⟨e, entry, rfl⟩ := mem
  exact ⟨e, entry, keep i e⟩

/-! ## One entry followed through the stages of an exchange's outcome -/

/-- From a state to another, of the node table only one entry is changed, to one with a property; the Cycle Timer stands. -/
structure State.Follows (s t : State) (i : Fin 32) (P : NodeEntry → Prop) : Prop where
  timer : t.timer = s.timer
  entry : ∃ e, t.nodes[i] = some e ∧ P e
  others : ∀ j, i ≠ j → t.nodes[j] = s.nodes[j]

namespace State.Follows
variable {s t : State} {i : Fin 32} {P Q : NodeEntry → Prop}

theorem congr {u : State} (h : s.Follows t i P) (timer : u.timer = t.timer) (nodes : u.nodes = t.nodes) :
    s.Follows u i P :=
  ⟨timer.trans h.timer, nodes ▸ h.entry, nodes ▸ h.others⟩

theorem modifyNode (h : s.Follows t i P) {f : NodeEntry → NodeEntry} (keep : ∀ e, P e → Q (f e)) :
    s.Follows (t.modifyNode i f) i Q := by
  obtain ⟨e, entry, p⟩ := h.entry
  refine ⟨h.timer, ⟨f e, ?_, keep e p⟩, fun j ne => ?_⟩
  · rw [State.modifyNode_get_self, entry, Option.map_some]
  · rw [State.modifyNode_get_ne t ne, h.others j ne]

theorem emit (h : s.Follows t i P) (effects : List Effect) : s.Follows (t.emit effects) i P :=
  h.congr (by simp) (by simp)

theorem eachStream (h : s.Follows t i P) (f : Fin 64 → StreamCtx → StreamCtx × List Effect) :
    s.Follows (t.eachStream f) i P :=
  h.congr (by simp) (by simp)

theorem protocolError (h : s.Follows t i P) (keep : ∀ e c, P e → P { e with counters := c }) :
    s.Follows (t.protocolError i) i P :=
  (h.modifyNode fun e => keep e _).congr rfl rfl

theorem resolve (h : s.Follows t i P) (p : DownPayload) (outcome : DeliveryOutcome) (uncertain : Bool)
    (keep : ∀ e, P e → Q (e.emptySlot p uncertain)) : s.Follows (t.resolve i p outcome uncertain) i Q :=
  (h.modifyNode keep).emit _

end State.Follows

/-- The polled node's entry between the stages: in order, with the Address that it had. -/
def NodeEntry.standing (address : Byte) (t : Timing) (last : Prop) (e : NodeEntry) : Prop :=
  e.address = address ∧ e.inOrder t last

namespace State.Follows
variable {s t : State} {i : Fin 32} {address : Byte} {timing : Timing} {last : Prop}

theorem stageLiveness (h : s.Follows t i (NodeEntry.standing address timing last)) (before : NodeState) (f : Bool) :
    s.Follows (t.stageLiveness i before f) i (NodeEntry.standing address timing last) := by
  have up := (h.modifyNode (f := fun e => { e with state := .up, retryCount := 0 }) (Q := NodeEntry.standing address timing last)
    fun e p => ⟨p.1, p.2.congr rfl (Nat.zero_le _) p.2.holdCount p.2.probeCountdown nofun rfl rfl⟩).emit
      ((livenessEntry before f).toList.map fun reason => .add (.nodeUp i reason))
  unfold State.stageLiveness
  dsimp only
  split
  · exact up.eachStream _
  · exact up

/-- A restart indication makes the last attempt none: Attempts become 0, below a DeliverLimit of 1 or more (R155). -/
theorem NodeEntry.inOrder.restartIndicated {e : NodeEntry} (h : e.inOrder timing last) (some : 1 ≤ timing.deliverLimit) :
    e.restartIndicated.inOrder timing last := by
  refine ⟨h.address, h.retryCount, h.holdCount, h.probeCountdown, fun down => ?_, fun _ => rfl, ?_, ?_, ?_⟩
  · rw [NodeEntry.restartIndicated, h.down down]
    rfl
  · intro p mem
    obtain ⟨q, slot, rfl⟩ := Option.map_eq_some_iff.1 mem
    exact h.length q slot
  · intro p mem
    obtain ⟨q, slot, rfl⟩ := Option.map_eq_some_iff.1 mem
    exact Nat.zero_le _
  · intro p mem none
    obtain ⟨q, slot, rfl⟩ := Option.map_eq_some_iff.1 mem
    dsimp only at none
    omega

theorem stageRestart (h : s.Follows t i (NodeEntry.standing address timing last)) (some : 1 ≤ timing.deliverLimit)
    (before : NodeState) (f : Bool) :
    s.Follows (t.stageRestart i before f) i (NodeEntry.standing address timing last) := by
  have indicated := h.modifyNode (f := NodeEntry.restartIndicated) (Q := NodeEntry.standing address timing last)
    fun e p => ⟨p.1, NodeEntry.inOrder.restartIndicated p.2 some⟩
  unfold State.stageRestart
  dsimp only
  split
  · split
    · exact indicated
    · exact indicated.eachStream _
  · exact h

theorem holdRecord (h : s.Follows t i (NodeEntry.standing address timing last)) (kind : ReplyKind) :
    s.Follows (t.modifyNode i (·.holdRecord kind)) i (NodeEntry.standing address timing last) := by
  refine h.modifyNode fun e p => ?_
  have low : bumpTo 255 e.holdCount ≤ 255 := bumpTo_le p.2.holdCount
  cases kind with
  | hold => exact ⟨p.1, p.2.congr rfl p.2.retryCount low p.2.probeCountdown id rfl rfl⟩
  | data | idle => exact ⟨p.1, p.2.congr rfl p.2.retryCount (Nat.zero_le _) p.2.probeCountdown id rfl rfl⟩

end State.Follows

/-! ## The outcome of an exchange at the polled node's entry -/

namespace State.Follows
variable {s t : State} {i : Fin 32} {address : Byte} {last : Prop} {e : NodeEntry}

theorem refl (entry : s.nodes[i] = some e) {P : NodeEntry → Prop} (p : P e) : s.Follows s i P :=
  ⟨rfl, ⟨e, entry, p⟩, fun _ _ => rfl⟩

theorem put (s : State) (i : Fin 32) (e : NodeEntry) :
    s.Follows { s with nodes := s.nodes.set i (some e) } i (· = e) := by
  refine ⟨rfl, ⟨e, by simp, rfl⟩, fun j ne => ?_⟩
  have ne : (i : Nat) ≠ j := fun eq => ne (Fin.ext eq)
  simp [ne]

theorem trans {u : State} {P Q : NodeEntry → Prop} (h : s.Follows t i P) (next : t.Follows u i Q) : s.Follows u i Q :=
  ⟨next.timer.trans h.timer, next.entry, fun j ne => (next.others j ne).trans (h.others j ne)⟩

theorem weaken {P Q : NodeEntry → Prop} (h : s.Follows t i P) (keep : ∀ e, P e → Q e) : s.Follows t i Q := by
  obtain ⟨e, entry, p⟩ := h.entry
  exact ⟨h.timer, ⟨e, entry, keep e p⟩, h.others⟩

theorem known {P : NodeEntry → Prop} (h : s.Follows t i P) (entry : t.nodes[i] = some e) : s.Follows t i (· = e) :=
  ⟨h.timer, ⟨e, entry, rfl⟩, h.others⟩

/-- A change that leaves the slot of the known entry empty. -/
theorem emptied (h : s.Follows t i (· = e)) (standing : e.standing address s.timer.timing last) {f : NodeEntry → NodeEntry}
    (slot : (f e).slot = none) (kept : (f e).address = e.address ∧ (f e).retryCount = e.retryCount ∧
      (f e).holdCount = e.holdCount ∧ (f e).probeCountdown = e.probeCountdown) :
    s.Follows (t.modifyNode i f) i (NodeEntry.standing address s.timer.timing False) := by
  obtain ⟨eqAddress, order⟩ := standing
  obtain ⟨sameAddress, retry, hold, probe⟩ := kept
  refine h.modifyNode ?_
  rintro _ rfl
  exact ⟨sameAddress.trans eqAddress, order.emptied slot sameAddress (retry ▸ order.retryCount) (hold ▸ order.holdCount)
    (probe ▸ order.probeCountdown)⟩

theorem resolved (h : s.Follows t i (· = e)) (standing : e.standing address s.timer.timing last) (p : DownPayload)
    (outcome : DeliveryOutcome) (uncertain : Bool) :
    s.Follows (t.resolve i p outcome uncertain) i (NodeEntry.standing address s.timer.timing False) :=
  (h.emptied (f := (·.emptySlot p uncertain)) standing rfl ⟨rfl, rfl, rfl, rfl⟩).emit _

end State.Follows

/-- With no payload at DeliverLimit an entry is in order after its exchange too. -/
theorem NodeEntry.standing.settled {e : NodeEntry} {address : Byte} {t : Timing} {last : Prop}
    (h : e.standing address t last) (below : ∀ p ∈ e.slot, p.attempts ≠ t.deliverLimit) : e.standing address t False :=
  ⟨h.1, { h.2 with atLimit := below }⟩

/-- The counters are no part of the invariant. -/
theorem NodeEntry.standing.counters {e : NodeEntry} {address : Byte} {t : Timing} {last : Prop}
    (h : e.standing address t last) (c : NodeCounters) : NodeEntry.standing address t last { e with counters := c } :=
  ⟨h.1, h.2.congr rfl h.2.retryCount h.2.holdCount h.2.probeCountdown id rfl rfl⟩

section Stages
variable {s t : State} {i : Fin 32} {address : Byte} {e : NodeEntry}

/-- The A bit evaluated settles a last attempt: the payload leaves its slot, or its POLL was not yet the last (R157, R158). -/
theorem State.Follows.evaluateA {last : Prop} (h : s.Follows t i (· = e))
    (standing : e.standing address s.timer.timing last) (answered : last → ∀ p ∈ e.slot, p.lastAnswered = true)
    (some : 1 ≤ s.timer.timing.deliverLimit) (kind : ReplyKind) (a : Bool) :
    s.Follows (t.evaluateA i e kind a) i (NodeEntry.standing address s.timer.timing False) := by
  have settled : e.standing address s.timer.timing False → s.Follows t i (NodeEntry.standing address s.timer.timing False) :=
    fun standing => h.weaken (by rintro _ rfl; exact standing)
  cases slot : e.slot with
  | some p =>
    have payload : ∀ q ∈ e.slot, q = p := by
      rw [slot]
      rintro q ⟨⟩
      rfl
    rw [State.evaluateA_of_slot slot]
    split
    · unfold State.notTaken
      rw [h.timer]
      split
      · exact h.resolved standing p _ _
      · split
        · exact h.resolved standing p _ _
        next more =>
          refine settled (standing.settled fun q mem limit => more ?_)
          rw [← payload q mem]
          exact ⟨limit, answered (standing.2.atLimit q mem limit) q mem⟩
    · split
      · exact (h.emptied standing rfl ⟨rfl, rfl, rfl, rfl⟩).emit _
      next none =>
        refine (settled (standing.settled fun q mem limit => none ?_)).protocolError fun e c p => p.counters c
        rw [← payload q mem]
        omega
  | none =>
    have settled := settled (standing.settled (by simp [slot]))
    cases resync : e.resync with
    | some tag =>
      rw [State.evaluateA_of_late slot resync]
      split
      · exact h.emptied standing slot ⟨rfl, rfl, rfl, rfl⟩
      · exact (h.emptied standing slot ⟨rfl, rfl, rfl, rfl⟩).emit _
    | none =>
      rw [State.evaluateA_of_none slot resync]
      split
      · exact settled
      · exact settled.protocolError fun e c p => p.counters c

/-- R156's first sentence keeps the entry in order. -/
theorem NodeEntry.standing.answered {last : Prop} (h : e.standing address t.timer.timing last) (carried : Bool) :
    (e.answered carried).standing address t.timer.timing last := by
  cases carried with
  | false => exact h
  | true =>
    refine ⟨h.1, h.2.address, h.2.retryCount, h.2.holdCount, h.2.probeCountdown, fun down => ?_, fun some => ?_, ?_, ?_, ?_⟩
    · rw [NodeEntry.answered, if_pos rfl]
      exact Option.map_eq_none_iff.2 (h.2.down down)
    · exact h.2.resync fun none => some (Option.map_eq_none_iff.2 none)
    all_goals
      intro p mem
      obtain ⟨q, slot, rfl⟩ := Option.map_eq_some_iff.1 mem
    · exact h.2.length q slot
    · exact h.2.attempts q slot
    · exact h.2.atLimit q slot

theorem State.Follows.stageA {carried : Bool}
    (h : s.Follows t i (NodeEntry.standing address s.timer.timing (carried = true)))
    (some : 1 ≤ s.timer.timing.deliverLimit) (kind : ReplyKind) (a : Bool) :
    s.Follows (t.stageA i kind a carried) i (NodeEntry.standing address s.timer.timing False) := by
  obtain ⟨e, entry, standing⟩ := h.entry
  have answered : s.Follows { t with nodes := t.nodes.set i (.some (e.answered carried)) } i (· = e.answered carried) := by
    obtain ⟨timer, old, others⟩ := State.Follows.put t i (e.answered carried)
    exact ⟨timer.trans h.timer, old, fun j ne => (others j ne).trans (h.others j ne)⟩
  rw [State.stageA_eq entry]
  refine answered.evaluateA (standing.answered carried) ?_ some kind a
  rintro rfl p mem
  obtain ⟨q, -, rfl⟩ := Option.map_eq_some_iff.1 mem
  rfl

theorem State.Follows.dispatchAll {P : NodeEntry → Prop} (h : s.Follows t i P) (blocks : List Block) :
    s.Follows (blocks.foldl (fun s b => s.dispatch i b) t) i P := by
  induction blocks generalizing t with
  | nil => exact h
  | cons b blocks ih => exact ih (h.congr (by simp) (by simp))

theorem State.Follows.stageData {last : Prop} (h : s.Follows t i (NodeEntry.standing address s.timer.timing last))
    (g sBit : Bool) (payload : List Byte) :
    s.Follows (t.stageData i g sBit payload) i (NodeEntry.standing address s.timer.timing last) := by
  have error {u : State} (h : s.Follows u i (NodeEntry.standing address s.timer.timing last)) :
      s.Follows (u.protocolError i) i (NodeEntry.standing address s.timer.timing last) :=
    h.protocolError fun e c p => p.counters c
  have checked : s.Follows (if g then t else t.protocolError i) i (NodeEntry.standing address s.timer.timing last) := by
    split
    · exact h
    · exact error h
  unfold State.stageData
  split
  · dsimp only
    split
    · exact error h
    · exact error (error h)
  next blocks _ =>
    unfold State.sequenceCheck
    dsimp only
    split
    · exact checked
    · split
      · exact (checked.modifyNode fun e p =>
          ⟨p.1, p.2.congr rfl p.2.retryCount p.2.holdCount p.2.probeCountdown id rfl rfl⟩).dispatchAll blocks
      · exact checked.modifyNode fun e p => p.counters _

/-- A valid reply leaves the polled node's entry in order, with no last attempt still open (R6). -/
theorem State.validReply_follows {x : Exchange} (entry : s.nodes[x.node] = some e)
    (order : e.inOrder s.timer.timing (x.carried = true)) (some : 1 ≤ s.timer.timing.deliverLimit) (r : NodeReply) :
    s.Follows (s.validReply x r) x.node (NodeEntry.standing e.address s.timer.timing False) := by
  have live := State.Follows.refl entry (P := NodeEntry.standing e.address s.timer.timing (x.carried = true)) ⟨rfl, order⟩
  have settled := (((live.stageLiveness e.state r.f).stageRestart some e.state r.f).holdRecord r.kind).stageA some r.kind r.a
  simp only [State.validReply, entry]
  split
  · exact settled.stageData _ _ _
  · exact settled
  · exact settled

theorem NodeState.failed_eq_down (state : NodeState) : state.failed = .down ↔ state = .down := by
  cases state <;> decide

theorem State.downed_follows (s : State) (i : Fin 32) (e : NodeEntry) :
    s.Follows (s.downed i e) i (· = { e with state := .down, probeCountdown := s.timer.timing.probeInterval }) :=
  ((State.Follows.put s i _).emit _).eachStream _

/-- The DOWN transition leaves an entry in order with an empty slot (R14, R160). -/
theorem State.goDown_follows {last : Prop} {before : NodeEntry} (entry : s.nodes[i] = some e)
    (order : e.inOrder s.timer.timing last) (probe : s.timer.timing.probeInterval ≤ 255) (same : e.slot = before.slot) :
    s.Follows (s.goDown i before) i (NodeEntry.standing e.address s.timer.timing False) := by
  have downed := State.downed_follows s i e
  cases slot : before.slot with
  | none =>
    rw [State.goDown_of_empty entry slot]
    refine downed.weaken ?_
    rintro _ rfl
    exact ⟨rfl, order.emptied (same.trans slot) rfl order.retryCount order.holdCount probe⟩
  | some p =>
    rw [State.goDown_of_payload entry slot]
    refine downed.resolve p _ _ ?_
    rintro _ rfl
    exact ⟨rfl, order.emptied rfl rfl order.retryCount order.holdCount probe⟩

/-- A failed exchange leaves the polled node's entry in order, with no last attempt still open (R13, R159, R160). -/
theorem State.failedExchange_follows {x : Exchange} (entry : s.nodes[x.node] = some e)
    (order : e.inOrder s.timer.timing (x.carried = true)) (probe : s.timer.timing.probeInterval ≤ 255) (how : Failure) :
    s.Follows (s.failedExchange x how) x.node (NodeEntry.standing e.address s.timer.timing False) := by
  by_cases down : e.state = .down
  · rw [State.failedExchange_of_down entry how down]
    refine (State.Follows.put s _ _).weaken ?_
    rintro _ rfl
    exact ⟨rfl, order.emptied (order.down down) rfl order.retryCount order.holdCount order.probeCountdown⟩
  · by_cases below : e.retryCount + 1 < s.timer.timing.retryLimit
    · have standing : (e.failedBelow how).standing e.address s.timer.timing (x.carried = true) :=
        ⟨rfl, order.congr rfl below.le order.holdCount order.probeCountdown
          (NodeState.failed_eq_down e.state).1 rfl rfl⟩
      have failed := State.Follows.put s x.node (e.failedBelow how)
      rw [State.failedExchange_of_below entry how down below]
      unfold State.failedAttempt
      split
      next p slot =>
        split
        next last => exact failed.resolved standing p _ _
        next kept =>
          refine failed.weaken ?_
          rintro _ rfl
          refine standing.settled fun q mem limit => kept ⟨standing.2.atLimit q mem limit, ?_⟩
          obtain rfl : p = q := Option.some.inj (slot.symm.trans mem)
          exact limit
      next slot =>
        refine failed.weaken ?_
        rintro _ rfl
        exact standing.settled fun q mem => by
          rw [show (e.failedBelow how).slot = none from slot] at mem
          cases mem
    · have limit := Nat.le_of_not_lt below
      have retried : NodeEntry.inOrder { e with
          retryCount := s.timer.timing.retryLimit, counters := e.counters.failed how } s.timer.timing (x.carried = true) :=
        order.congr rfl le_rfl order.holdCount order.probeCountdown id rfl rfl
      rw [State.failedExchange_of_limit entry how down limit]
      have put := State.Follows.put s x.node
        { e with retryCount := s.timer.timing.retryLimit, counters := e.counters.failed how }
      obtain ⟨_, now, rfl⟩ := put.entry
      have down := State.goDown_follows (before := e) now retried probe rfl
      exact put.trans down

/-! ## The end of an exchange (R38, R55) -/

/-- With master reset not in progress, an exchange in flight is the only one that may hold a last attempt. -/
theorem State.attempting_iff {x : Exchange} (live : s.live) (exchange : s.port.exchange = some x) :
    s.attempting i ↔ x.node = i ∧ x.carried = true := by
  rw [State.attempting, exchange]
  exact ⟨fun h => by obtain ⟨_, ⟨⟩, carried⟩ := h live; exact carried, fun h _ => ⟨x, rfl, h⟩⟩

@[simp] theorem State.endExchange_nodes (s : State) (x : Exchange) : (s.endExchange x).nodes = (s.probed x).nodes := by
  rw [State.endExchange_eq, State.stopIfStopping_nodes, State.portToIdle_nodes]

theorem State.endExchange_timing (s : State) (x : Exchange) : (s.endExchange x).timer.timing = s.timer.timing := by
  rw [State.endExchange_eq, State.stopIfStopping]
  split
  all_goals exact (congrArg (fun r => r.timer.timing) (s.probed_rest x) :)

/-- The end of an exchange keeps the node table in order, once its outcome is settled at the polled node's entry. -/
theorem State.nodesOk.endExchange {x : Exchange} (h : s.nodesOk) (live : s.live) (exchange : s.port.exchange = some x)
    (entry : s.nodes[x.node] = some e) (probe : s.timer.timing.probeInterval ≤ 255)
    (follows : s.Follows t x.node (NodeEntry.standing e.address s.timer.timing False)) : (t.endExchange x).nodesOk := by
  obtain ⟨settled, now, address, order⟩ := follows.entry
  refine h.of_entries fun j f mem => ?_
  rw [State.endExchange_nodes, State.probed_get] at mem
  rw [State.endExchange_timing, follows.timer]
  by_cases polled : x.node = j
  · subst polled
    refine ⟨e, entry, ?_⟩
    rw [now] at mem
    split at mem
    · obtain rfl := Option.some.inj mem
      exact ⟨address, fun _ => NodeEntry.inOrder.mono (last := False) (order.congr rfl order.retryCount order.holdCount
        (show t.timer.timing.probeInterval ≤ 255 by rw [follows.timer]; exact probe) id rfl rfl) False.elim⟩
    · obtain rfl := Option.some.inj mem
      exact ⟨address, fun _ => order.mono False.elim⟩
  · rw [if_neg fun h => polled h.2.symm, follows.others j polled] at mem
    refine ⟨f, mem, rfl, fun order => order.mono fun trying => ?_⟩
    exact absurd ((State.attempting_iff live exchange).1 trying).1 polled

end Stages
/-! ## The other changes at an entry -/

section Entries
variable {e : NodeEntry} {t : Timing} {last : Prop}

/-- A fresh entry is in order at every Address in range (R2, R17). -/
theorem NodeEntry.fresh_inOrder {address : Byte} (range : 1 ≤ address.toNat ∧ address.toNat ≤ 126) :
    (NodeEntry.fresh address).inOrder t last :=
  ⟨range, Nat.zero_le _, Nat.zero_le _, Nat.zero_le _, nofun, fun some => absurd rfl some, nofun, nofun, nofun⟩

theorem NodeEntry.inOrder.probeTick (h : e.inOrder t last) : e.probeTick.inOrder t last := by
  rw [NodeEntry.probeTick_eq]
  split
  · exact h.congr rfl h.retryCount h.holdCount ((Nat.sub_le _ _).trans h.probeCountdown) id rfl rfl
  · exact h

/-- A POLL counts an attempt of the payload that it carries; before it no attempt was the last one (R154). -/
theorem NodeEntry.inOrder.polled (h : e.inOrder t False) : e.polled.inOrder t (e.attached.isSome = true) := by
  by_cases carried : e.attached.isSome = true
  · have slot : e.polled.slot = e.slot.map fun p => { p with attempts := p.attempts + 1, lastAnswered := false } :=
      if_pos carried
    refine ⟨h.address, h.retryCount, h.holdCount, h.probeCountdown, fun down => ?_, fun some => h.resync ?_, ?_, ?_,
      fun _ _ _ => carried⟩
    · rw [slot, h.down down]
      rfl
    · exact fun none => some (by rw [slot, none]; rfl)
    all_goals
      rw [slot]
      intro p mem
      obtain ⟨q, held, rfl⟩ := Option.map_eq_some_iff.1 mem
    · exact h.length q held
    · exact Nat.lt_of_le_of_ne (h.attempts q held) (h.atLimit q held)
  · have same := h.congr (e' := e.polled) rfl h.retryCount h.holdCount h.probeCountdown id rfl (if_neg carried)
    exact same.mono False.elim

/-- New limits bring the counts below themselves (R42). -/
theorem NodeEntry.inOrder.limited {old : Timing} (h : e.inOrder old False) (ok : t.ok) :
    (e.limited old t).inOrder t False := by
  obtain ⟨-, -, -, -, -, -, deliver, hold, -⟩ := ok
  have below : ∀ p ∈ (e.limited old t).slot, p.attempts < t.deliverLimit := by
    intro p mem
    obtain ⟨q, slot, rfl⟩ := Option.map_eq_some_iff.1 mem
    have atMost := h.attempts q slot
    dsimp only [underLimit]
    split <;> omega
  refine ⟨h.address, ?_, ?_, h.probeCountdown, fun down => ?_, fun some => h.resync ?_, ?_, fun p mem => (below p mem).le,
    fun p mem => (below p mem).ne⟩
  · have atMost := h.retryCount
    dsimp only [NodeEntry.limited, underLimit]
    split <;> omega
  · have atMost := h.holdCount
    dsimp only [NodeEntry.limited, underLimit]
    split <;> omega
  · exact Option.map_eq_none_iff.2 (h.down down)
  · exact fun none => some (Option.map_eq_none_iff.2 none)
  · intro p mem
    obtain ⟨q, slot, rfl⟩ := Option.map_eq_some_iff.1 mem
    exact h.length q slot

/-- NODE SEND's payload in the empty slot of a node that is not DOWN (R151, R152). -/
theorem NodeEntry.inOrder.filled (h : e.inOrder t last) (some : 1 ≤ t.deliverLimit) (notDown : e.state ≠ .down)
    (noResync : e.resync = none) (tag : Word16) {payload : List Byte}
    (length : 1 ≤ payload.length ∧ payload.length ≤ Config.payloadBytes) :
    NodeEntry.inOrder { e with slot := .some { tag := tag, payload := payload, attempts := 0, lastAnswered := false } }
      t last := by
  refine ⟨h.address, h.retryCount, h.holdCount, h.probeCountdown, fun down => absurd down notDown, fun _ => noResync, ?_, ?_,
    ?_⟩
  · rintro _ ⟨⟩
    exact length
  · rintro _ ⟨⟩
    exact Nat.zero_le _
  · rintro _ ⟨⟩ none
    dsimp only at none
    omega

end Entries

/-- NODE SET gives a fresh entry at an Address that no other entry has (R17, R18). -/
theorem State.nodesOk.withFreshNode {s : State} (h : s.nodesOk) {i : Fin 32} {address : Byte}
    (range : 1 ≤ address.toNat ∧ address.toNat ≤ 126) (free : ¬ s.addressTaken i address = true) :
    (s.withFreshNode i address).nodesOk := by
  have here : (s.withFreshNode i address).nodes[i] = some (NodeEntry.fresh address) := Vector.getElem_set_self _
  have there (j : Fin 32) (ne : i ≠ j) : (s.withFreshNode i address).nodes[j] = s.nodes[j] :=
    Vector.getElem_set_ne i.isLt j.isLt fun eq => ne (Fin.ext eq)
  have other (j : Fin 32) (ne : i ≠ j) (e : NodeEntry) (mem : s.nodes[j] = some e) : e.address ≠ address :=
    fun same => free (State.addressTaken_iff.2 ⟨j, ne.symm, e, mem, same⟩)
  refine ⟨fun j e mem => ?_, fun j k ne e mem f memF => ?_⟩
  · by_cases eq : i = j
    · subst eq
      obtain rfl := Option.some.inj (here.symm.trans mem)
      exact State.entryOk_iff.2 (NodeEntry.fresh_inOrder range)
    · rw [there j eq] at mem
      exact h.1 j e mem
  · by_cases eqJ : i = j
    · subst eqJ
      obtain rfl := Option.some.inj (here.symm.trans mem)
      rw [there k ne] at memF
      exact (other k ne f memF).symm
    · rw [there j eqJ] at mem
      by_cases eqK : i = k
      · subst eqK
        obtain rfl := Option.some.inj (here.symm.trans memF)
        exact other j eqJ e mem
      · rw [there k eqK] at memF
        exact h.2 j k ne e mem f memF

/-! ## The node table under every change -/

/-- With no exchange in flight and no master reset, no last attempt is open. -/
theorem State.not_attempting {s : State} (live : s.live) (none : s.port.exchange = none) (i : Fin 32) :
    ¬ s.attempting i := by
  intro trying
  obtain ⟨x, flight, -⟩ := trying live
  rw [none] at flight
  cases flight

/-- An idle port, and one that sends a beacon, has no exchange in flight. -/
theorem State.portOk.no_exchange {s : State} (h : s.portOk) (quiet : s.port.state.exchanging = false) :
    s.port.exchange = none := by
  obtain ⟨-, exchange, -⟩ := h
  exact Option.not_isSome_iff_eq_none.1 (by rw [exchange, quiet]; decide)

theorem State.nodesOk.boundary {s : State} (h : s.nodesOk) (untaken : Nat) : (s.boundary untaken).nodesOk := by
  rw [State.boundary_eq]
  exact h.map NodeEntry.probeTick rfl fun i e => ⟨by rw [NodeEntry.probeTick_eq]; split <;> rfl, fun order => order.probeTick⟩

theorem State.nodesOk.beginPoll {s : State} (h : s.nodesOk) (live : s.live) (none : s.port.exchange = none) {i : Fin 32}
    {e : NodeEntry} (entry : s.nodes[i] = some e) (probe : Bool) : (s.beginPoll i e probe).nodesOk := by
  refine h.of_entries fun j f mem => ?_
  unfold State.beginPoll at mem
  dsimp only at mem
  by_cases polled : i = j
  · subst polled
    rw [State.modifyNode_get_self, entry] at mem
    obtain rfl := Option.some.inj mem
    refine ⟨e, entry, rfl, fun order => ?_⟩
    have idle := order.mono (State.not_attempting live none i)
    exact idle.polled.mono fun carried _ => ⟨_, rfl, rfl, carried⟩
  · rw [State.modifyNode_get_ne _ polled] at mem
    exact ⟨f, mem, rfl, fun order => order.mono fun trying => absurd trying (State.not_attempting live none j)⟩

/-- Every change outside master reset keeps the node table in order. -/
theorem Change.keeps_nodesOk {s t : State} (live : s.live) (clock : s.clockOk) (port : s.portOk) (h : s.nodesOk)
    (change : Change s t) : t.nodesOk := by
  have ⟨⟨_, _, _, _, _, interval, deliver, _, _⟩, _⟩ := clock
  have ⟨_, exchange, _, _, inUse, halted, _, _⟩ := port
  have polled {x : Exchange} (flight : s.port.exchange = some x) : ∃ e, s.nodes[x.node] = some e ∧
      e.inOrder s.timer.timing (x.carried = true) := by
    obtain ⟨e, entry⟩ := Option.isSome_iff_exists.1 (inUse x flight)
    exact ⟨e, entry, (State.entryOk_iff.1 (h.1 x.node e entry)).mono fun trying =>
      ((State.attempting_iff live flight).1 trying).2⟩
  cases change with
  | transmit => exact h.congr (by simp) (by simp) (by simp) (by simp)
  | boundary counter untaken =>
    exact State.nodesOk.boundary (s := { s with timer := { s.timer with cycleCounter := counter } }) h untaken
  | start =>
    exact State.nodesOk.boundary (s := { s with timer := { s.timer with engine := .running, cycleCounter := 0 } }) h 0
  | streamEngine => exact h.congr (by simp) (by simp) (by simp) (by simp)
  | assembler => exact h.congr (by simp) (by simp) (by simp) (by simp)
  | stop =>
    simp only [State.stop]
    split <;> exact h
  | beaconSent frame sending beacon =>
    have none := port.no_exchange (by rw [sending, PortState.exchanging, beacon]; rfl)
    refine h.congr (by simp) ?_ (by simp) (by simp [none])
    unfold State.stopIfStopping
    split <;> rfl
  | poll position i probe e ready running taken entry =>
    exact State.nodesOk.beginPoll (s := { s with sched := { s.sched with position := position + 1 } }) h live
      (port.ready ready).2.2.1 entry probe
  | measure => exact h.congr (by simp) (by simp) (by simp) (by simp)
  | failed x how flight =>
    obtain ⟨e, entry, order⟩ := polled flight
    exact h.endExchange live flight entry interval.2 (State.failedExchange_follows entry order interval.2 how)
  | replied x r flight =>
    obtain ⟨e, entry, order⟩ := polled flight
    exact h.endExchange live flight entry interval.2 (State.validReply_follows entry order deliver.1 r)
  | released none exchanging =>
    rw [none, exchanging] at exchange
    cases exchange
  | flush => exact h.map NodeEntry.flush rfl fun i e => ⟨rfl, fun order => NodeEntry.fresh_inOrder order.address⟩
  | setTiming t halt ok =>
    have none := State.not_attempting live (port.no_exchange (by rw [halted halt]; rfl))
    exact h.map (NodeEntry.limited s.timer.timing t) rfl fun i e =>
      ⟨rfl, fun order => ((order.mono (none i)).limited ok).mono False.elim⟩
  | setNode i address range free =>
    have fresh := h.withFreshNode range free
    by_cases free : s.nodes[i] = none
    · rwa [State.setNode_of_free free]
    · rw [State.setNode_of_inUse free]
      exact fresh.congr (by simp [State.resetStreams]) (by simp [State.resetStreams]) (by simp [State.resetStreams])
        (by simp [State.resetStreams])
  | freeNode i =>
    refine h.of_entries fun j e mem => ⟨e, ?_, rfl, id⟩
    by_cases same : i = j
    · subst same
      simp at mem
    · have ne : (i : Nat) ≠ j := fun eq => same (Fin.ext eq)
      simpa [ne] using mem
  | clearNode i =>
    refine (h.modifyNode i (·.tally fun _ => ⟨0, 0, 0, 0, 0, 0, 0⟩) fun e _ => ⟨rfl, fun order => ?_⟩).congr rfl rfl rfl rfl
    exact order.congr rfl order.retryCount order.holdCount order.probeCountdown id rfl rfl
  | fill i e tag payload entry length notDown noSlot noResync =>
    refine h.modifyNode i _ fun f held => ⟨rfl, fun order => ?_⟩
    obtain rfl := Option.some.inj (entry.symm.trans held)
    exact order.filled deliver.1 notDown noResync tag length
  | cancel i p =>
    refine (h.modifyNode i (·.emptySlot p (0 < p.attempts)) fun e _ => ⟨rfl, fun order => ?_⟩).congr (by simp [State.resolve])
      (by simp [State.resolve]) (by simp [State.resolve]) (by simp [State.resolve])
    exact order.emptied rfl rfl order.retryCount order.holdCount order.probeCountdown
  | disable => exact h.congr (by simp) (by simp) (by simp) (by simp)
  | _ => exact h

/-- Master reset leaves the node table as it is until its end (R177). -/
theorem State.nodesOk.hold {s : State} (h : s.nodesOk) (cause : ResetCause) : (s.hold cause).nodesOk :=
  h.of_entries fun _ e mem => ⟨e, mem, rfl, fun order => order.mono fun _ => nofun⟩

/-- The end of master reset leaves every entry FREE (R177). -/
theorem State.afterReset_nodesOk (s : State) (cause : ResetCause) (rate1 rate0 : Bool) :
    (s.afterReset cause rate1 rate0).nodesOk := by
  have free (i : Fin 32) (e : NodeEntry) : ¬ (s.afterReset cause rate1 rate0).nodes[i] = some e := by
    simp [State.afterReset, State.masterReset]
  exact ⟨fun i e mem => absurd mem (free i e), fun i _ _ e mem => absurd mem (free i e)⟩

/-- Settles O58, by the induction over a step with the clock's ranges and the port's agreement beside it. -/
theorem everyStepKeepsNodes : Obligations.EveryStepKeepsNodes := by
  unfold Obligations.EveryStepKeepsNodes
  intro s t clock port nodes next
  refine (step_keeps (P := fun s => s.clockOk ∧ s.portOk ∧ s.nodesOk) (fun _ _ h => h) ?hold ?reset ?change
    ⟨clock, port, nodes⟩ next).2.2
  case hold => exact fun s cause ⟨clock, port, nodes⟩ => ⟨clock, port.hold cause, nodes.hold cause⟩
  case reset =>
    exact fun s cause r1 r0 => ⟨s.afterReset_clockOk cause r1 r0, s.afterReset_portOk cause r1 r0,
      s.afterReset_nodesOk cause r1 r0⟩
  case change =>
    rintro s t live ⟨clock, port, nodes⟩ change
    exact ⟨change.keeps_clockOk clock, change.keeps_portOk port, change.keeps_nodesOk live clock port nodes⟩

end Sys2Proof.Machine

/-! SUPPORT. A stream's configuration and its starting values: the arguments of STREAM SET field by field, the ranges of
Table 4-1, and the statements on STREAM SET and on a restart (R64, R68, R70). -/

namespace Sys2Proof.Machine

/-! ## A coded byte -/

theorem Byte.le_one_iff (b : Byte) : b.toNat ≤ 1 ↔ b = 0 ∨ b = 1 := by
  bv_omega

theorem Byte.le_two_iff (b : Byte) : b.toNat ≤ 2 ↔ b = 0 ∨ b = 1 ∨ b = 2 := by
  bv_omega

theorem yesNo_eq_some_iff {b : Byte} {v : Bool} : yesNo b = some v ↔ b.toNat ≤ 1 ∧ v = (b == 1) := by
  rw [Byte.le_one_iff]
  unfold yesNo
  split
  next zero => simp [zero, eq_comm]
  next notZero =>
    split
    next one => simp [one, eq_comm]
    next notOne =>
      refine iff_of_false nofun ?_
      rintro ⟨zero | one, -⟩
      exacts [notZero zero, notOne one]

/-! ## The fields of a configuration (Table 4-1) -/

/-- The kind that an in-range byte names. -/
def Kind.ofByte (b : Byte) : Kind := if b = 1 then .words else .bits

theorem Kind.ofByte_eq_words_iff {b : Byte} : Kind.ofByte b = .words ↔ b = 1 := by
  unfold Kind.ofByte
  split <;> simp_all

theorem parseKind_eq_some_iff {b : Byte} {kind : Kind} :
    parseKind b = some kind ↔ b.toNat ≤ 1 ∧ kind = .ofByte b := by
  rw [Byte.le_one_iff]
  unfold parseKind Kind.ofByte
  split
  next zero => simp [zero, eq_comm]
  next notZero =>
    split
    next one => simp [one, eq_comm]
    next notOne =>
      refine iff_of_false nofun ?_
      rintro ⟨zero | one, -⟩
      exacts [notZero zero, notOne one]

/-- The sample output that in-range arguments name. -/
def SampleOutput.ofArgs (selector shift : Byte) : SampleOutput :=
  if selector = 0 then .off else if selector = 1 then .short shift.toNat else .long

theorem parseOutput_eq_some_iff {selector shift : Byte} {output : SampleOutput} : parseOutput selector shift = some output ↔
    (selector.toNat ≤ 2 ∧ (selector = 1 → shift.toNat ≤ 24)) ∧ output = .ofArgs selector shift := by
  rw [Byte.le_two_iff]
  unfold parseOutput SampleOutput.ofArgs
  split
  next zero => simp [zero, eq_comm]
  next notZero =>
    split
    next one => simp [one, eq_comm]
    next notOne =>
      split
      next two => simp [two, eq_comm]
      next notTwo =>
        refine iff_of_false nofun ?_
        rintro ⟨⟨zero | one | two, -⟩, -⟩
        exacts [notZero zero, notOne one, notTwo two]

/-- The comparator that in-range arguments name. -/
def ComparatorConfig.ofArgs (a : StreamArgs) : ComparatorConfig :=
  { kc := a.kc.toNat, rc := a.rc.toNat, high := a.high.toInt, low := a.low.toInt, hysteresis := a.hysteresis.toNat,
    tripCount := a.tripCount.toNat }

/-- The ranges of a comparator that is on (Table 6-1). -/
def ComparatorConfig.inRange (m : ComparatorConfig) : Prop :=
  1 ≤ m.kc ∧ m.kc ≤ 3 ∧ 1 ≤ m.rc ∧ m.rc ≤ 32 ∧ m.low < m.high ∧ 1 ≤ m.tripCount ∧ m.tripCount ≤ 15

theorem parseComparator_eq_some_iff {a : StreamArgs} {m : Option ComparatorConfig} : parseComparator a = some m ↔
    (a.comparator.toNat ≤ 1 ∧ (a.comparator = 1 → (ComparatorConfig.ofArgs a).inRange)) ∧
      m = if a.comparator = 1 then some (.ofArgs a) else none := by
  rw [Byte.le_one_iff]
  unfold parseComparator
  split
  next zero => simp [zero, eq_comm]
  next notZero =>
    split
    next one => simp [one, ComparatorConfig.ofArgs, ComparatorConfig.inRange, eq_comm]
    next notOne =>
      refine iff_of_false nofun ?_
      rintro ⟨⟨zero | one, -⟩, -⟩
      exacts [notZero zero, notOne one]

/-- The integrator that in-range arguments name. -/
def IntegratorMode.ofArgs (selector n align : Byte) : IntegratorMode :=
  if selector = 0 then .off else if selector = 1 then .count n.toNat (align == 1) else .cycle

theorem parseIntegrator_eq_some_iff {selector n align : Byte} {mode : IntegratorMode} :
    parseIntegrator selector n align = some mode ↔
      (selector.toNat ≤ 2 ∧ (selector = 1 → 1 ≤ n.toNat ∧ n.toNat ≤ 128 ∧ align.toNat ≤ 1)) ∧
        mode = .ofArgs selector n align := by
  rw [Byte.le_two_iff]
  unfold parseIntegrator IntegratorMode.ofArgs
  split
  next zero => simp [zero, eq_comm]
  next notZero =>
    split
    next one =>
      cases named : yesNo align with
      | some v =>
        obtain ⟨low, rfl⟩ := yesNo_eq_some_iff.1 named
        simp [one, low, eq_comm]
      | none =>
        have high : ¬ align.toNat ≤ 1 := fun low => by
          rw [yesNo_eq_some_iff.2 ⟨low, rfl⟩] at named
          cases named
        simp [one, high]
    next notOne =>
      split
      next two => simp [two, eq_comm]
      next notTwo =>
        refine iff_of_false nofun ?_
        rintro ⟨⟨zero | one | two, -⟩, -⟩
        exacts [notZero zero, notOne one, notTwo two]

/-- The configuration that in-range arguments name. -/
def StreamConfig.ofArgs (a : StreamArgs) (node : Fin 32) (tag : Fin 8) : StreamConfig :=
  { node := node, tag := tag, kind := .ofByte a.kind, k := a.k.toNat, r := a.r.toNat
    output := .ofArgs a.output a.shift, comparator := if a.comparator = 1 then some (.ofArgs a) else none
    integrator := .ofArgs a.integrator a.n a.align, staleLimit := a.staleLimit.toNat
    intervalInSummary := a.intervalInSummary == 1 }

/-- The ranges of Table 4-1 in STREAM SET's arguments, part by part. -/
structure StreamArgsOk (a : StreamArgs) : Prop where
  filter : a.kind.toNat ≤ 1 ∧ 1 ≤ a.k.toNat ∧ a.k.toNat ≤ 3 ∧ 1 ≤ a.r.toNat ∧ a.r.toNat ≤ 256 ∧
    (a.kind = 1 → a.r.toNat ^ a.k.toNat ≤ 65536)
  output : a.output.toNat ≤ 2 ∧ (a.output = 1 → a.shift.toNat ≤ 24)
  comparator : a.comparator.toNat ≤ 1 ∧ (a.comparator = 1 → (ComparatorConfig.ofArgs a).inRange)
  integrator : a.integrator.toNat ≤ 2 ∧ (a.integrator = 1 → 1 ≤ a.n.toNat ∧ a.n.toNat ≤ 128 ∧ a.align.toNat ≤ 1)
  interval : a.intervalInSummary.toNat ≤ 1

/-- STREAM SET takes the arguments whose parts are all in range, and the configuration is as given (R64, R70). -/
theorem parseStream_eq_some_iff {a : StreamArgs} {node : Fin 32} {tag : Fin 8} {c : StreamConfig} :
    parseStream a node tag = some c ↔ StreamArgsOk a ∧ c = .ofArgs a node tag := by
  unfold parseStream
  split
  next kind output comparator integrator interval eqKind eqOutput eqComparator eqIntegrator eqInterval =>
    obtain ⟨kindOk, rfl⟩ := parseKind_eq_some_iff.1 eqKind
    obtain ⟨outputOk, rfl⟩ := parseOutput_eq_some_iff.1 eqOutput
    obtain ⟨comparatorOk, rfl⟩ := parseComparator_eq_some_iff.1 eqComparator
    obtain ⟨integratorOk, rfl⟩ := parseIntegrator_eq_some_iff.1 eqIntegrator
    obtain ⟨intervalOk, rfl⟩ := yesNo_eq_some_iff.1 eqInterval
    dsimp only
    simp only [Kind.ofByte_eq_words_iff]
    split
    next range =>
      rw [Option.some.injEq, eq_comm]
      exact (and_iff_right ⟨⟨kindOk, range⟩, outputOk, comparatorOk, integratorOk, intervalOk⟩).symm
    next range => exact iff_of_false nofun fun ⟨ok, _⟩ => range ok.filter.2
  next missing =>
    exact iff_of_false nofun fun ⟨ok, _⟩ => missing _ _ _ _ _ (parseKind_eq_some_iff.2 ⟨ok.filter.1, rfl⟩)
      (parseOutput_eq_some_iff.2 ⟨ok.output, rfl⟩) (parseComparator_eq_some_iff.2 ⟨ok.comparator, rfl⟩)
      (parseIntegrator_eq_some_iff.2 ⟨ok.integrator, rfl⟩) (yesNo_eq_some_iff.2 ⟨ok.interval, rfl⟩)

/-- An accepted configuration is within the ranges that the running state rests on. -/
theorem StreamArgsOk.configOk {a : StreamArgs} (h : StreamArgsOk a) (node : Fin 32) (tag : Fin 8) :
    (StreamConfig.ofArgs a node tag).ok := by
  obtain ⟨-, lowK, highK, lowR, highR, words⟩ := h.filter
  refine ⟨⟨lowK, highK⟩, ⟨lowR, highR⟩, fun kind => words (Kind.ofByte_eq_words_iff.1 kind), ?_, fun m on => ?_⟩
  · exact Nat.le_of_lt_succ a.staleLimit.isLt
  · dsimp only [StreamConfig.ofArgs] at on
    split at on
    next one =>
      obtain rfl := Option.some.inj on
      obtain ⟨lowK, highK, lowR, highR, limits, lowTrip, highTrip⟩ := h.comparator.2 one
      exact ⟨⟨lowK, highK⟩, ⟨lowR, highR⟩, limits, lowTrip, highTrip⟩
    next => cases on

/-! ## The statements on STREAM SET -/

/-- Settles O46: the arguments in range are those that `parseStream` takes, and each part of the configuration is as given. -/
theorem configurationRangesAreChecked : Obligations.ConfigurationRangesAreChecked := by
  unfold Obligations.ConfigurationRangesAreChecked
  intro a node tag filterOk filter outputOk output comparatorOk comparator integratorOk integrator ok ok_iff
  have ok_iff : ok ↔ StreamArgsOk a := by
    rw [ok_iff, filter, output, comparator, integrator]
    exact ⟨fun ⟨filter, output, comparator, integrator, interval⟩ => ⟨filter, output, comparator, integrator, interval⟩,
      fun h => ⟨h.filter, h.output, h.comparator, h.integrator, h.interval⟩⟩
  rw [ok_iff]
  constructor
  · intro bad
    exact Option.eq_none_iff_forall_ne_some.2 fun c parsed => bad (parseStream_eq_some_iff.1 parsed).1
  · intro good
    refine ⟨.ofArgs a node tag, parseStream_eq_some_iff.2 ⟨good, rfl⟩, good.configOk node tag, rfl, rfl,
      Kind.ofByte_eq_words_iff, rfl, rfl, ?_⟩
    dsimp only [StreamConfig.ofArgs]
    refine ⟨fun zero => ?_, fun one => ?_, fun two => ?_, fun zero => ?_, fun one => ?_, fun zero => ?_, fun one => ?_,
      fun two => ?_, rfl, rfl⟩
    · rw [zero]; rfl
    · rw [one]; rfl
    · rw [two]; rfl
    · rw [zero]; rfl
    · rw [one]; rfl
    · rw [zero]; rfl
    · rw [one]; rfl
    · rw [two]; rfl

/-! ### STREAM SET's checks (R70) -/

theorem tagIndex_eq_none {b : Byte} (above : 7 < b.toNat) : tagIndex b = none := by
  rw [tagIndex, dif_neg (by omega)]

@[simp] theorem tagIndex_nat8 (tag : Fin 8) : tagIndex (nat8 tag) = some tag := by
  have value : (nat8 tag).toNat = tag := by
    rw [nat8, BitVec.toNat_ofNat]
    exact Nat.mod_eq_of_lt (by omega)
  simp [tagIndex, value]

theorem State.streamRunning_iff {s : State} {i : Fin 64} :
    s.streamRunning i = true ↔ ∃ c, s.streams[i] = some c ∧ c.state ≠ .idle := by
  unfold State.streamRunning
  cases s.streams[i] <;> simp

theorem State.pairTaken_iff {s : State} {i : Fin 64} {node : Fin 32} {tag : Fin 8} : s.pairTaken i node tag = true ↔
    ∃ (j : Fin 64) (c : StreamCtx), j ≠ i ∧ s.streams[j] = some c ∧ c.config.node = node ∧ c.config.tag = tag := by
  simp only [State.pairTaken, List.any_eq_true, List.mem_finRange, true_and, Bool.and_eq_true, bne_iff_ne]
  refine exists_congr fun j => ?_
  cases s.streams[j] <;> simp

theorem streamSet_of_outOfRange {number : Byte} {args : StreamArgs}
    (above : 63 < number.toNat ∨ 31 < args.node.toNat ∨ 7 < args.tag.toNat) (s : State) :
    streamSet number args s = refuse s .range := by
  unfold streamSet
  split
  next i node tag eqStream eqNode eqTag =>
    obtain stream | index | tag := above
    · rw [streamIndex_eq_none stream] at eqStream
      cases eqStream
    · rw [nodeIndex_eq_none index] at eqNode
      cases eqNode
    · rw [tagIndex_eq_none tag] at eqTag
      cases eqTag
  · rfl

section Set
variable {s : State} {args : StreamArgs} {i : Fin 64} {node : Fin 32} {tag : Fin 8} (eqNode : args.node = nat8 node)
  (eqTag : args.tag = nat8 tag)
include eqNode eqTag

theorem streamSet_of_running (running : s.streamRunning i = true) : streamSet (nat8 i) args s = refuse s .state := by
  simp only [streamSet, streamIndex_nat8, eqNode, nodeIndex_nat8, eqTag, tagIndex_nat8, if_pos running]

variable (idle : ¬ s.streamRunning i = true)
include idle

theorem streamSet_of_freeNode (free : s.nodes[node] = none) : streamSet (nat8 i) args s = refuse s .noent := by
  simp only [streamSet, streamIndex_nat8, eqNode, nodeIndex_nat8, eqTag, tagIndex_nat8, if_neg idle, free, Option.isNone_none,
    if_true]

variable (inUse : s.nodes[node] ≠ none)
include inUse

theorem streamSet_of_taken (taken : s.pairTaken i node tag = true) : streamSet (nat8 i) args s = refuse s .conflict := by
  simp only [streamSet, streamIndex_nat8, eqNode, nodeIndex_nat8, eqTag, tagIndex_nat8, if_neg idle,
    if_neg (Option.isNone_iff_eq_none.not.2 inUse), if_pos taken]

variable (free : ¬ s.pairTaken i node tag = true)
include free

theorem streamSet_of_badConfig (bad : parseStream args node tag = none) :
    streamSet (nat8 i) args s = refuse s .range := by
  simp only [streamSet, streamIndex_nat8, eqNode, nodeIndex_nat8, eqTag, tagIndex_nat8, if_neg idle,
    if_neg (Option.isNone_iff_eq_none.not.2 inUse), if_neg free, bad]

theorem streamSet_of_config {config : StreamConfig} (good : parseStream args node tag = some config) :
    streamSet (nat8 i) args s =
      { state := s.setStream i (some (StreamCtx.set config)), status := .ok, results := [] } := by
  simp only [streamSet, streamIndex_nat8, eqNode, nodeIndex_nat8, eqTag, tagIndex_nat8, if_neg idle,
    if_neg (Option.isNone_iff_eq_none.not.2 inUse), if_neg free, good]

end Set

/-- Settles O45: each clause is the rule's answer at the check that decides. -/
theorem streamSetConfigures : Obligations.StreamSetConfigures := by
  unfold Obligations.StreamSetConfigures
  intro ref number args s accepts refused refused_iff
  have answer {status : Status} (rule : streamSet number args s = refuse s status) : refused status :=
    (refused_iff status).2 (command_of_refuse accepts 0x30 ref rule)
  refine ⟨fun above => answer (streamSet_of_outOfRange above s), ?_⟩
  rintro i node tag rfl eqNode eqTag running running_iff held held_iff
  rw [← State.streamRunning_iff] at running_iff
  rw [← State.pairTaken_iff] at held_iff
  rw [running_iff, held_iff]
  refine ⟨fun running => answer (streamSet_of_running eqNode eqTag running),
    fun idle free => answer (streamSet_of_freeNode eqNode eqTag idle free), fun idle inUse =>
      ⟨fun taken => answer (streamSet_of_taken eqNode eqTag idle inUse taken),
        fun free bad => answer (streamSet_of_badConfig eqNode eqTag idle inUse free bad), fun config free good => ?_⟩⟩
  exact command_of_answer accepts 0x30 ref (streamSet_of_config eqNode eqTag idle inUse free good)

end Sys2Proof.Machine

/-! SUPPORT. What happens inside a stream: its starting values, the SAMPLE and the integration of an output, the taking of a
block, and the statements on them (R68, R78, R79, R92 to R96, R119, R121). -/

namespace Sys2Proof.Machine

/-! ## The starting values (R68) -/

theorem unsettledOutputs_le (k r : Nat) : unsettledOutputs k r ≤ 2 := by
  unfold unsettledOutputs
  split_ifs <;> omega

theorem StreamRun.fresh_waiting_iff {c : StreamConfig} :
    (StreamRun.fresh c).waiting = true ↔ ∃ n, c.integrator = .count n true := by
  cases mode : c.integrator <;> simp [StreamRun.fresh, mode]

theorem StreamRun.fresh_cmpFilter_of_on {c : StreamConfig} {m : ComparatorConfig} (on : c.comparator = some m) :
    (StreamRun.fresh c).cmpFilter = FilterState.fresh m.kc m.rc := by
  simp only [StreamRun.fresh, on]

theorem StreamRun.fresh_cmpFilter_of_off {c : StreamConfig} (off : c.comparator = none) :
    (StreamRun.fresh c).cmpFilter = { history := [], phase := 0 } := by
  simp only [StreamRun.fresh, off]

/-- Settles O39: the settling time by cases on k and R, and the filters as they are made fresh. -/
theorem restartGivesStartingValues : Obligations.RestartGivesStartingValues := by
  unfold Obligations.RestartGivesStartingValues
  rintro c -
  refine ⟨unsettledOutputs c.k c.r, (StreamRun.fresh c).waiting, FilterState.fresh c.k c.r, (StreamRun.fresh c).cmpFilter,
    fun one => ?_, fun two ratio => ?_, fun three ratio => ?_, fun three ratio => ?_, StreamRun.fresh_waiting_iff, rfl,
    fun m on => StreamRun.fresh_cmpFilter_of_on on, fun off => StreamRun.fresh_cmpFilter_of_off off, rfl⟩
  · exact if_pos (by omega)
  · rw [unsettledOutputs, if_neg (by omega), if_pos two]
  · rw [unsettledOutputs, if_neg (by omega), if_neg (by omega), if_pos ratio]
  · rw [unsettledOutputs, if_neg (by omega), if_neg (by omega), if_neg (by omega)]

/-! ## An output's SAMPLE (R93 to R96) -/

theorem shortValue_of_within {shift : Nat} {out v : Int} (value : v = out / (2 : Int) ^ shift) (low : -32768 ≤ v)
    (high : v ≤ 32767) : shortValue shift out = (v, false) := by
  have floor : out.fdiv (2 ^ shift) = v := by rw [value, Int.fdiv_eq_ediv_of_nonneg out (by positivity)]
  dsimp only [shortValue]
  rw [floor, if_neg (by omega), if_neg (by omega)]

theorem shortValue_of_above {shift : Nat} {out v : Int} (value : v = out / (2 : Int) ^ shift) (above : 32767 < v) :
    shortValue shift out = (32767, true) := by
  have floor : out.fdiv (2 ^ shift) = v := by rw [value, Int.fdiv_eq_ediv_of_nonneg out (by positivity)]
  dsimp only [shortValue]
  rw [floor, if_pos above]

theorem shortValue_of_below {shift : Nat} {out v : Int} (value : v = out / (2 : Int) ^ shift) (below : v < -32768) :
    shortValue shift out = (-32768, true) := by
  have floor : out.fdiv (2 ^ shift) = v := by rw [value, Int.fdiv_eq_ediv_of_nonneg out (by positivity)]
  dsimp only [shortValue]
  rw [floor, if_neg (by omega), if_pos below]

/-- Settles O28: the three positions of the shifted value, and the two other forms of the output. -/
theorem shortSampleSaturates : Obligations.ShortSampleSaturates := by
  unfold Obligations.ShortSampleSaturates
  intro i shift seq unsettled out v value
  refine ⟨fun low high => ?_, fun above => ?_, fun below => ?_, rfl, rfl, fun r c cycle => rfl⟩
  · simp only [sampleEffects, shortValue_of_within value low high]
    rfl
  · simp only [sampleEffects, shortValue_of_above value above]
    rfl
  · simp only [sampleEffects, shortValue_of_below value below]
    rfl

/-! ## An output integrated (R119, R121) -/

theorem StreamRun.addOutput_windowCount (r : StreamRun) (out : Int) :
    (r.addOutput out).1.windowCount = bump r.windowCount := by
  unfold StreamRun.addOutput
  dsimp only
  split <;> rfl

section Integrate
variable {r : StreamRun} {c : StreamConfig} (i : Fin 64) (cycle : Word16) (out : Int)

theorem StreamRun.integrate_of_off (off : c.integrator = .off) : r.integrate i c cycle out = (r, []) := by
  simp only [StreamRun.integrate, off]

theorem StreamRun.integrate_of_cycle (mode : c.integrator = .cycle) : r.integrate i c cycle out = r.addOutput out := by
  simp only [StreamRun.integrate, mode]

variable {n : Nat} {align : Bool} (mode : c.integrator = .count n align)
include mode

theorem StreamRun.integrate_of_waiting (waiting : r.waiting = true) : r.integrate i c cycle out = (r, []) := by
  simp only [StreamRun.integrate, mode, if_pos waiting]

theorem StreamRun.integrate_of_counting (going : r.waiting = false) : r.integrate i c cycle out =
    if (bump r.windowCount).toNat = n then
      ((r.addOutput out).1.emptyWindow, (r.addOutput out).2 ++ [.add ((r.addOutput out).1.summary i c false cycle)])
    else r.addOutput out := by
  simp only [StreamRun.integrate, mode, going, StreamRun.addOutput_windowCount, Bool.false_eq_true, if_false]

end Integrate

/-- Settles O30: each mode's integration, and in COUNT mode the output that completes the window or does not. -/
theorem countWindowClosesAtN : Obligations.CountWindowClosesAtN := by
  unfold Obligations.CountWindowClosesAtN
  refine fun r i c cycle out => ⟨StreamRun.integrate_of_off i cycle out, StreamRun.integrate_of_cycle i cycle out,
    fun n align mode => ⟨StreamRun.integrate_of_waiting i cycle out mode, fun going more => ?_, fun going last => ?_⟩⟩
  · rw [StreamRun.integrate_of_counting i cycle out mode going, if_neg more]
  · rintro _ rfl
    rw [StreamRun.integrate_of_counting i cycle out mode going, if_pos last]
    rfl

/-! ## The taking of a block (R78, R79) -/

section Input
variable {r : StreamRun} {c : StreamConfig} (i : Fin 64) (cycle : Word16) {x : Int} {f : FilterState}

theorem StreamRun.decimate_of_none (more : r.filter.push c.k c.r x = (f, none)) :
    r.decimate i c cycle x = ({ r with filter := f }, []) := by
  simp only [StreamRun.decimate, more]

theorem StreamRun.decimate_of_some {out : Int} (made : r.filter.push c.k c.r x = (f, some out)) :
    r.decimate i c cycle x = StreamRun.decimated { r with filter := f } i c cycle out := by
  simp only [StreamRun.decimate, made]

theorem StreamRun.compare_of_off (off : c.comparator = none) : r.compare i c x = (r, []) := by
  simp only [StreamRun.compare, off]

variable {m : ComparatorConfig} (on : c.comparator = some m)
include on

theorem StreamRun.compare_of_none (more : r.cmpFilter.push m.kc m.rc x = (f, none)) :
    r.compare i c x = ({ r with cmpFilter := f }, []) := by
  simp only [StreamRun.compare, on, more]

theorem StreamRun.compare_of_some {out : Int} (made : r.cmpFilter.push m.kc m.rc x = (f, some out)) :
    r.compare i c x = StreamRun.compared { r with cmpFilter := f } i m out := by
  simp only [StreamRun.compare, on, made]

end Input

/-- Inputs taken one at a time are a fold, with the effects of each after those before it. -/
theorem StreamRun.inputs_eq_foldl (r : StreamRun) (i : Fin 64) (c : StreamConfig) (cycle : Word16)
    (inputs : List (Int × Int)) (before : List Effect) :
    inputs.foldl (fun acc x =>
      let first := acc.1.decimate i c cycle x.1
      let second := first.1.compare i c x.2
      (second.1, acc.2 ++ (first.2 ++ second.2))) (r, before) =
      ((r.inputs i c cycle inputs).1, before ++ (r.inputs i c cycle inputs).2) := by
  induction inputs generalizing r before with
  | nil => simp [StreamRun.inputs]
  | cons x xs ih =>
    rw [List.foldl_cons, ih]
    simp [StreamRun.inputs, StreamRun.input]

/-- With no pair held twice, the binding map gives the stream that holds the pair (R66). -/
theorem State.bound_iff {s : State} (h : s.streamsOk) {node : Fin 32} {tag : Fin 8} {i : Fin 64} :
    s.bound node tag = some i ↔ ∃ c, s.streams[i] = some c ∧ c.config.node = node ∧ c.config.tag = tag := by
  refine ⟨State.bound_holds, ?_⟩
  rintro ⟨c, stream, node_eq, tag_eq⟩
  cases bound : s.bound node tag with
  | none => exact absurd ⟨node_eq, tag_eq⟩ (State.bound_eq_none.1 bound i c stream)
  | some j =>
    obtain ⟨d, other, node_eq', tag_eq'⟩ := State.bound_holds bound
    refine congrArg some (Decidable.not_not.1 fun ne => ?_)
    exact h.2 j i ne d other c stream ⟨node_eq'.trans node_eq.symm, tag_eq'.trans tag_eq.symm⟩

theorem byteBits_eq : byteBits = fun b => (List.range 8).map fun j => b.getLsbD (7 - j) := by
  funext b
  refine List.map_congr_left fun j mem => ?_
  have below : j < 8 := List.mem_range.1 mem
  simp [BitVec.getMsbD, below]

theorem wordsOf_flatMap_be16 (words : List Word16) : wordsOf (words.flatMap be16) = words.map BitVec.toInt := by
  induction words with
  | nil => rfl
  | cons w words ih =>
    rw [List.flatMap_cons, List.map_cons, ← ih]
    calc wordsOf (be16 w ++ words.flatMap be16)
        = (word16 (w.extractLsb' 8 8) (w.extractLsb' 0 8)).toInt :: wordsOf (words.flatMap be16) := rfl
      _ = w.toInt :: wordsOf (words.flatMap be16) := by rw [word16_bytes]

section Dispatch
variable {s : State} {node : Fin 32} {b : Block}

theorem State.dispatch_of_unbound (unbound : s.bound node b.tag = none) :
    s.dispatch node b = s.setUnclaimed node (bump s.unclaimed[node]) := by
  simp only [State.dispatch, unbound]

variable {i : Fin 64} {c : StreamCtx} (bound : s.bound node b.tag = some i) (stream : s.streams[i] = some c)
include bound stream

theorem State.dispatch_of_inactive (inactive : c.state ≠ .active) :
    s.dispatch node b = s.setUnclaimed node (bump s.unclaimed[node]) := by
  simp only [State.dispatch, bound, stream, if_neg inactive]

variable (active : c.state = .active)
include active

theorem State.dispatch_of_mismatch (mismatch : b.kind ≠ c.config.kind) : s.dispatch node b =
    s.setStream i (some { c with run := { c.run with kindMismatch := bump c.run.kindMismatch } }) := by
  simp only [State.dispatch, bound, stream, if_pos active, if_neg mismatch]

theorem State.dispatch_of_match (kind : b.kind = c.config.kind) : s.dispatch node b =
    (s.setStream i (some { c with run := (c.run.takeBlock i c.config s.timer.cycleNumber b).1 })).emit
      (c.run.takeBlock i c.config s.timer.cycleNumber b).2 := by
  simp only [State.dispatch, bound, stream, if_pos active, if_pos kind]

end Dispatch

/-- Settles O26: the binding map, the block's input values, the two filters for one of them, and the four cases of a block. -/
theorem blockIsDispatchedToItsStream : Obligations.BlockIsDispatchedToItsStream := by
  unfold Obligations.BlockIsDispatchedToItsStream
  refine ⟨fun s node tag => ⟨fun h i => State.bound_iff h, State.bound_eq_none⟩, ⟨fun tag content => ?bits,
    fun tag words => ?words⟩, fun r i c cycle x => ⟨fun f => StreamRun.decimate_of_none i cycle,
      fun f out => StreamRun.decimate_of_some i cycle, StreamRun.compare_of_off i, fun m on =>
        ⟨fun f => StreamRun.compare_of_none i on, fun f out => StreamRun.compare_of_some i on⟩⟩, ?block⟩
  case bits =>
    simp only [Block.inputs, byteBits_eq]
  case words =>
    simp only [Block.inputs, wordsOf_flatMap_be16, List.map_map]
    rfl
  case block =>
    refine fun s node b => ⟨State.dispatch_of_unbound, fun i c bound stream => ⟨State.dispatch_of_inactive bound stream,
      State.dispatch_of_mismatch bound stream, ?_⟩⟩
    rintro active kind _ rfl _ rfl
    rw [StreamRun.inputs_eq_foldl, State.dispatch_of_match bound stream active kind]
    rfl

end Sys2Proof.Machine

/-! SUPPORT. The streams' invariant: a stream's running state in order under its configuration, what a node's change of state
does to the streams that name it, and the statement that every step keeps the streams in order (R63 to R69, R75 to R81). -/

namespace Sys2Proof.Machine

/-! ## A running state in order -/

/-- A running state in order under a configuration: the invariant of a stream without its state and its node. -/
structure StreamRun.ok (r : StreamRun) (c : StreamConfig) : Prop where
  filter : r.filter.ok c.k c.r
  countdown : r.countdown ≤ 2
  comparator : ∀ m ∈ c.comparator, r.cmpFilter.ok m.kc m.rc ∧ r.beyondCount < m.tripCount
  off : c.comparator = none → r.cmpState = .inside
  trip : r.cmpState ≠ .inside → r.beyondCount = 0 ∧ r.beyondDir = none
  cycles : r.cyclesSince ≤ 255

/-- A stream in order, its node aside: INSIDE outside ACTIVE (R69). -/
structure StreamCtx.ok (c : StreamCtx) : Prop where
  config : c.config.ok
  run : c.run.ok c.config
  inside : c.state ≠ .active → c.run.cmpState = .inside

theorem State.streamOk_iff {s : State} {c : StreamCtx} :
    s.streamOk c ↔ (∃ e ∈ s.nodes[c.config.node], c.state.agrees e.state) ∧ c.ok := by
  constructor
  · rintro ⟨node, config, filter, countdown, ⟨comparator, off, inside, trip⟩, cycles⟩
    exact ⟨node, config, ⟨filter, countdown, comparator, off, trip, cycles⟩, inside⟩
  · rintro ⟨node, config, ⟨filter, countdown, comparator, off, trip, cycles⟩, inside⟩
    exact ⟨node, config, filter, countdown, ⟨comparator, off, inside, trip⟩, cycles⟩

/-- What the invariant reads of a running state: a change of the other fields keeps it. -/
theorem StreamRun.ok.congr {r r' : StreamRun} {c : StreamConfig} (h : r.ok c) (filter : r'.filter = r.filter)
    (countdown : r'.countdown ≤ 2) (cmpFilter : r'.cmpFilter = r.cmpFilter) (cmpState : r'.cmpState = r.cmpState)
    (beyondCount : r'.beyondCount = r.beyondCount) (beyondDir : r'.beyondDir = r.beyondDir)
    (cycles : r'.cyclesSince ≤ 255) : r'.ok c :=
  ⟨filter ▸ h.filter, countdown, by rw [cmpFilter, beyondCount]; exact h.comparator, by rw [cmpState]; exact h.off,
    by rw [cmpState, beyondCount, beyondDir]; exact h.trip, cycles⟩

/-! ## Filters and starting values -/

theorem FilterState.fresh_ok {k r : Nat} (pos : 1 ≤ r) : (FilterState.fresh k r).ok k r :=
  ⟨List.length_replicate, pos⟩

theorem FilterState.ok.push {f : FilterState} {k r : Nat} (h : f.ok k r) (x : Int) : (f.push k r x).1.ok k r := by
  obtain ⟨length, phase⟩ := h
  have history : ((x :: f.history).take (k * (r - 1))).length = k * (r - 1) := by
    rw [List.length_take, List.length_cons, length]
    omega
  unfold FilterState.push
  dsimp only
  split
  next more => exact ⟨history, more⟩
  · exact ⟨history, Nat.zero_lt_of_lt phase⟩

theorem StreamRun.fresh_ok {c : StreamConfig} (h : c.ok) : (StreamRun.fresh c).ok c := by
  obtain ⟨-, ⟨pos, -⟩, -, -, comparator⟩ := h
  refine ⟨FilterState.fresh_ok pos, unsettledOutputs_le c.k c.r, fun m on => ?_, fun _ => rfl, fun trip => absurd rfl trip,
    Nat.zero_le _⟩
  obtain ⟨-, ⟨ratio, -⟩, -, count, -⟩ := comparator m on
  rw [StreamRun.fresh_cmpFilter_of_on on]
  exact ⟨FilterState.fresh_ok ratio, count⟩

/-! ## An output of each filter -/

section Output
variable {r : StreamRun} {c : StreamConfig} (i : Fin 64)

/-- An output handed to the integrator changes the window and nothing else (R119). -/
theorem StreamRun.integrate_window (r : StreamRun) (c : StreamConfig) (cycle : Word16) (out : Int) :
    ∃ sum sumCount windowCount overflow, (r.integrate i c cycle out).1 =
      { r with sum := sum, sumCount := sumCount, windowCount := windowCount, overflow := overflow } := by
  have added : ∃ sum sumCount windowCount overflow, (r.addOutput out).1 =
      { r with sum := sum, sumCount := sumCount, windowCount := windowCount, overflow := overflow } := by
    by_cases inside : inRange32 (r.sum + out) = true
    · rw [StreamRun.addOutput_of_inRange inside]
      exact ⟨_, _, _, _, rfl⟩
    · rw [StreamRun.addOutput_of_not_inRange inside]
      exact ⟨_, _, _, _, rfl⟩
  have same : ∃ sum sumCount windowCount overflow,
      r = { r with sum := sum, sumCount := sumCount, windowCount := windowCount, overflow := overflow } := ⟨_, _, _, _, rfl⟩
  cases mode : c.integrator with
  | off =>
    rw [StreamRun.integrate_of_off i cycle out mode]
    exact same
  | cycle =>
    rw [StreamRun.integrate_of_cycle i cycle out mode]
    exact added
  | count n align =>
    by_cases waiting : r.waiting = true
    · rw [StreamRun.integrate_of_waiting i cycle out mode waiting]
      exact same
    · rw [StreamRun.integrate_of_counting i cycle out mode (Bool.not_eq_true _ ▸ waiting)]
      split
      · obtain ⟨_, _, _, _, eq⟩ := added
        rw [eq]
        exact ⟨_, _, _, _, rfl⟩
      · exact added

theorem StreamRun.ok.decimated (h : r.ok c) (cycle : Word16) (out : Int) : (r.decimated i c cycle out).1.ok c := by
  unfold StreamRun.decimated
  dsimp only
  obtain ⟨_, _, _, _, eq⟩ := StreamRun.integrate_window i
    { r with seq := r.seq + 1, outputs := bump r.outputs, countdown := r.countdown - 1 } c cycle out
  rw [eq]
  exact h.congr rfl ((Nat.sub_le _ _).trans h.countdown) rfl rfl rfl rfl h.cycles

theorem StreamRun.ok.decimate (h : r.ok c) (cycle : Word16) (x : Int) : (r.decimate i c cycle x).1.ok c := by
  have pushed : StreamRun.ok { r with filter := (r.filter.push c.k c.r x).1 } c := { h with filter := h.filter.push x }
  cases push : r.filter.push c.k c.r x with
  | mk f made =>
    rw [push] at pushed
    cases made with
    | none =>
      rw [StreamRun.decimate_of_none i cycle push]
      exact pushed
    | some out =>
      rw [StreamRun.decimate_of_some i cycle push]
      exact pushed.decimated i cycle out

variable {m : ComparatorConfig} (on : c.comparator = some m)
include on

/-- A count that stands below TripCount in INSIDE, in whichever direction. -/
theorem StreamRun.ok.counted (h : r.ok c) (inside : r.cmpState = .inside) {count : Nat} (below : count < m.tripCount)
    (dir : Option Direction) : StreamRun.ok { r with beyondCount := count, beyondDir := dir } c := by
  refine { h with comparator := fun m' on' => ?_, trip := fun trip => absurd inside trip }
  obtain rfl := Option.some.inj (on.symm.trans on')
  exact ⟨(h.comparator m on).1, below⟩

theorem StreamRun.ok.beyond (h : r.ok c) (inside : r.cmpState = .inside) (positive : 1 ≤ m.tripCount) (dir : Direction)
    (out : Int) : (r.beyond i m dir out).1.ok c := by
  by_cases reached : m.tripCount ≤ r.countBeyond dir
  · rw [StreamRun.beyond_of_le i reached]
    refine { h.counted on inside positive none with off := fun off => ?_, trip := fun _ => ⟨rfl, rfl⟩ }
    rw [on] at off
    cases off
  · rw [StreamRun.beyond_of_lt i (Nat.lt_of_not_le reached)]
    exact h.counted on inside (Nat.lt_of_not_le reached) (some dir)

theorem StreamRun.ok.judge (h : r.ok c) (inside : r.cmpState = .inside) (positive : 1 ≤ m.tripCount) (out : Int) :
    (r.judge i m out).1.ok c := by
  unfold StreamRun.judge
  split
  · exact h.beyond i on inside positive .high out
  · split
    · exact h.beyond i on inside positive .low out
    · exact h.counted on inside positive none

theorem StreamRun.ok.releasedBy (h : r.ok c) (positive : 1 ≤ m.tripCount) (dir : Direction) (out : Int) :
    (r.releasedBy i m dir out).1.ok c := by
  have inside : StreamRun.ok { r with cmpState := .inside } c :=
    { h with off := fun _ => rfl, trip := fun trip => absurd rfl trip }
  exact inside.judge i on rfl positive out

theorem StreamRun.ok.compared (h : r.ok c) (positive : 1 ≤ m.tripCount) (out : Int) : (r.compared i m out).1.ok c := by
  unfold StreamRun.compared
  split
  next inside => exact h.judge i on inside positive out
  · split
    · exact h.releasedBy i on positive .high out
    · exact h
  · split
    · exact h.releasedBy i on positive .low out
    · exact h

end Output

/-! ## A block taken (R79) -/

section Block
variable {r : StreamRun} {c : StreamConfig} (i : Fin 64)

theorem StreamRun.ok.compare (h : r.ok c) (config : c.ok) (x : Int) : (r.compare i c x).1.ok c := by
  obtain ⟨-, -, -, -, comparator⟩ := config
  cases on : c.comparator with
  | none =>
    rw [StreamRun.compare_of_off i on]
    exact h
  | some m =>
    obtain ⟨-, -, -, positive, -⟩ := comparator m on
    have pushed : StreamRun.ok { r with cmpFilter := (r.cmpFilter.push m.kc m.rc x).1 } c := by
      refine { h with comparator := fun m' on' => ?_ }
      obtain rfl := Option.some.inj (on.symm.trans on')
      exact ⟨(h.comparator m on).1.push x, (h.comparator m on).2⟩
    cases push : r.cmpFilter.push m.kc m.rc x with
    | mk f made =>
      rw [push] at pushed
      cases made with
      | none =>
        rw [StreamRun.compare_of_none i on push]
        exact pushed
      | some out =>
        rw [StreamRun.compare_of_some i on push]
        exact pushed.compared i on positive out

theorem StreamRun.ok.inputs (h : r.ok c) (config : c.ok) (cycle : Word16) (inputs : List (Int × Int)) :
    (r.inputs i c cycle inputs).1.ok c := by
  induction inputs generalizing r with
  | nil => exact h
  | cons x xs ih => exact ih ((h.decimate i cycle x.1).compare i config x.2)

theorem StreamRun.ok.takeBlock (h : r.ok c) (config : c.ok) (cycle : Word16) (b : Block) :
    (r.takeBlock i c cycle b).1.ok c := by
  have started : StreamRun.ok
      { ({ r with blocks := bump r.blocks } : StreamRun).stamp with stale := false, cyclesSince := 0 } c :=
    h.congr rfl h.countdown rfl rfl rfl rfl (Nat.zero_le _)
  exact started.inputs i config cycle b.inputs

/-! ## A boundary in the Stream Engine (R81, R122 to R124) -/

theorem StreamRun.ok.staleCheck (h : r.ok c) : (r.staleCheck i c).1.ok c := by
  have cycles : bumpTo 255 r.cyclesSince ≤ 255 := bumpTo_le h.cycles
  unfold StreamRun.staleCheck
  dsimp only
  split
  · exact h
  · split
    · exact h.congr rfl h.countdown rfl rfl rfl rfl cycles
    · exact h.congr rfl h.countdown rfl rfl rfl rfl cycles

theorem StreamRun.ok.windowBoundary (h : r.ok c) (ended : Word16) : (r.windowBoundary i c ended).1.ok c := by
  unfold StreamRun.windowBoundary
  split
  · exact h
  · split
    · exact h.congr rfl h.countdown rfl rfl rfl rfl h.cycles
    · exact h
  · exact h.congr rfl h.countdown rfl rfl rfl rfl h.cycles

theorem StreamCtx.boundary_config (c : StreamCtx) (ended : Word16) : (c.boundary i ended).1.config = c.config := by
  unfold StreamCtx.boundary
  split <;> rfl

theorem StreamCtx.boundary_state (c : StreamCtx) (ended : Word16) : (c.boundary i ended).1.state = c.state := by
  unfold StreamCtx.boundary
  split <;> rfl

theorem StreamCtx.ok.boundary {c : StreamCtx} (h : c.ok) (ended : Word16) : (c.boundary i ended).1.ok := by
  unfold StreamCtx.boundary
  split
  next active => exact ⟨h.config, (h.run.staleCheck i).windowBoundary i ended, fun inactive => absurd active inactive⟩
  · exact h

end Block

/-! ## A stream restarted, and put aside (R68, R72, R75) -/

theorem StreamCtx.restarted_ok {c : StreamCtx} (config : c.config.ok) (state : StreamState) : (c.restarted state).ok :=
  ⟨config, StreamRun.fresh_ok config, fun _ => rfl⟩

theorem StreamCtx.ok.setAside {c : StreamCtx} (h : c.ok) (state : StreamState) : (c.setAside state).ok := by
  by_cases inside : c.run.cmpState = .inside
  · rw [StreamCtx.setAside_of_inside inside]
    exact ⟨h.config, h.run.congr rfl h.run.countdown rfl rfl rfl rfl h.run.cycles, fun _ => inside⟩
  · rw [StreamCtx.setAside_of_trip inside]
    refine ⟨h.config, { h.run with
      comparator := fun m on => ⟨(h.run.comparator m on).1, ?_⟩
      off := fun _ => rfl
      trip := fun trip => absurd rfl trip }, fun _ => rfl⟩
    exact Nat.zero_lt_of_lt (h.run.comparator m on).2

theorem StreamCtx.ok.tick {c : StreamCtx} (h : c.ok) : c.tick.ok := by
  unfold StreamCtx.tick
  split
  · split
    · exact ⟨h.config, h.run.congr rfl h.run.countdown rfl rfl rfl rfl h.run.cycles, h.inside⟩
    · exact ⟨h.config, h.run.congr rfl h.run.countdown rfl rfl rfl rfl h.run.cycles, h.inside⟩
  · exact h

/-! ## The stream table -/

/-- The State of the entry at a node index, if it is in use: what the streams' invariant reads of the node table. -/
def State.nodeState (s : State) (i : Fin 32) : Option NodeState := s.nodes[i].map NodeEntry.state

/-- A stream's state agrees with its node's, which is in use (R63). -/
def StreamCtx.fits (c : StreamCtx) (node : Option NodeState) : Prop := ∃ st ∈ node, c.state.agrees st

theorem State.streamOk_iff_fits {s : State} {c : StreamCtx} : s.streamOk c ↔ c.fits (s.nodeState c.config.node) ∧ c.ok := by
  rw [State.streamOk_iff]
  refine and_congr_left fun _ => ?_
  simp only [StreamCtx.fits, State.nodeState, Option.mem_map, exists_exists_and_eq_and]

/-- A stream table is in order when each stream is, and comes from one with the same configuration. -/
theorem State.streamsOk.of_streams {s t : State} (h : s.streamsOk) (streams : ∀ (i : Fin 64) (d : StreamCtx),
    t.streams[i] = some d → ∃ c, s.streams[i] = some c ∧ d.config = c.config ∧
      (c.fits (s.nodeState c.config.node) → c.ok → d.fits (t.nodeState c.config.node) ∧ d.ok)) : t.streamsOk := by
  refine ⟨fun i d mem => ?_, fun i j ne d mem d' mem' => ?_⟩
  · obtain ⟨c, old, config, keep⟩ := streams i d mem
    obtain ⟨fits, ok⟩ := State.streamOk_iff_fits.1 (h.1 i c old)
    rw [State.streamOk_iff_fits, config]
    exact keep fits ok
  · obtain ⟨c, old, config, -⟩ := streams i d mem
    obtain ⟨c', old', config', -⟩ := streams j d' mem'
    rw [config, config']
    exact h.2 i j ne c old c' old'

/-- The invariant of the streams speaks of the streams and of the nodes' states only. -/
theorem State.streamsOk.congr {s t : State} (h : s.streamsOk) (streams : t.streams = s.streams)
    (nodes : ∀ i, t.nodeState i = s.nodeState i) : t.streamsOk :=
  h.of_streams fun _ d mem => ⟨d, streams ▸ mem, rfl, fun fits ok => ⟨(nodes d.config.node).symm ▸ fits, ok⟩⟩

/-! ## Node states -/

section NodeStates
variable (s : State) {i j : Fin 32}

theorem State.nodeState_put (e : NodeEntry) :
    State.nodeState { s with nodes := s.nodes.set i (some e) } j = if i = j then some e.state else s.nodeState j := by
  unfold State.nodeState
  split
  next same =>
    subst same
    simp
  next ne =>
    have ne : (i : Nat) ≠ j := fun eq => ne (Fin.ext eq)
    simp [ne]

theorem State.nodeState_modifyNode {f : NodeEntry → NodeEntry} (same : ∀ e, (f e).state = e.state) :
    (s.modifyNode i f).nodeState j = s.nodeState j := by
  unfold State.nodeState
  by_cases eq : i = j
  · subst eq
    rw [State.modifyNode_get_self, Option.map_map]
    exact congrArg (fun g => s.nodes[i].map g) (funext same)
  · rw [State.modifyNode_get_ne s eq]

theorem State.nodeState_map {t : State} {f : NodeEntry → NodeEntry} (nodes : t.nodes = s.nodes.map fun e => e.map f)
    (same : ∀ e, (f e).state = e.state) : t.nodeState j = s.nodeState j := by
  unfold State.nodeState
  rw [nodes, show (s.nodes.map fun e => e.map f)[j] = s.nodes[j].map f from Vector.getElem_map _ j.isLt, Option.map_map]
  exact congrArg (fun g => s.nodes[j].map g) (funext same)

end NodeStates

namespace State.streamsOk
variable {s : State} (h : s.streamsOk) (i : Fin 32)
include h

theorem modifyNode {f : NodeEntry → NodeEntry} (same : ∀ e, (f e).state = e.state) : (s.modifyNode i f).streamsOk :=
  h.congr rfl fun _ => s.nodeState_modifyNode same

theorem emit (effects : List Effect) : (s.emit effects).streamsOk :=
  h.congr (by simp) fun j => by rw [State.nodeState, State.emit_nodes, State.nodeState]

theorem resolve (p : DownPayload) (outcome : DeliveryOutcome) (uncertain : Bool) :
    (s.resolve i p outcome uncertain).streamsOk :=
  (h.modifyNode i (f := (·.emptySlot p uncertain)) fun _ => rfl).emit _

theorem protocolError : (s.protocolError i).streamsOk :=
  (h.modifyNode i (f := (·.tally fun c => { c with protocolErrors := bump c.protocolErrors })) fun _ => rfl).congr rfl
    fun _ => rfl

/-- A node's State changed from `before` to `after`, and each of its streams made to fit it. -/
theorem eachStream {t : State} (streams : t.streams = s.streams) (nodes : ∀ j, i ≠ j → t.nodeState j = s.nodeState j)
    (f : Fin 64 → StreamCtx → StreamCtx × List Effect)
    (ours : ∀ k c, c.config.node = i → c.fits (s.nodeState i) → c.ok →
      (f k c).1.config = c.config ∧ (f k c).1.fits (t.nodeState i) ∧ (f k c).1.ok)
    (others : ∀ k c, c.config.node ≠ i → (f k c).1 = c) : (t.eachStream f).streamsOk := by
  have states (j : Fin 32) : (t.eachStream f).nodeState j = t.nodeState j := by
    rw [State.nodeState, State.eachStream_nodes, State.nodeState]
  refine h.of_streams fun k d mem => ?_
  rw [State.eachStream_streams, streams, Option.map_eq_some_iff] at mem
  obtain ⟨c, stream, rfl⟩ := mem
  refine ⟨c, stream, ?_⟩
  rw [states]
  by_cases node : c.config.node = i
  · obtain ⟨fits, ok⟩ := State.streamOk_iff_fits.1 (h.1 k c stream)
    rw [node] at fits ⊢
    obtain ⟨config, keep⟩ := ours k c node fits ok
    exact ⟨config, fun _ _ => keep⟩
  · rw [others k c node, nodes _ (Ne.symm node)]
    exact ⟨rfl, fun fits ok => ⟨fits, ok⟩⟩

/-- A node that is not DOWN may take any State but DOWN. -/
theorem liveState {t : State} (streams : t.streams = s.streams) (nodes : ∀ j, i ≠ j → t.nodeState j = s.nodeState j)
    {before after : NodeState} (old : s.nodeState i = some before) (new : t.nodeState i = some after)
    (live : before ≠ .down) (live' : after ≠ .down) : t.streamsOk := by
  refine h.of_streams fun k d mem => ⟨d, streams ▸ mem, rfl, fun fits ok => ⟨?_, ok⟩⟩
  by_cases node : d.config.node = i
  · rw [node] at fits ⊢
    obtain ⟨st, mem, -, suspended⟩ := fits
    obtain rfl := Option.some.inj (old.symm.trans mem)
    exact ⟨after, new, fun _ => live', fun susp => absurd (suspended susp) live⟩
  · rw [nodes _ (Ne.symm node)]
    exact fits

end State.streamsOk

/-! ## The streams of a node under its changes (R75 to R77) -/

/-- A restarted ACTIVE stream fits a node that is not DOWN. -/
theorem StreamCtx.restarted_active_fits (c : StreamCtx) {node : NodeState} (live : node ≠ .down) :
    (c.restarted .active).fits (some node) :=
  ⟨node, rfl, fun _ => live, nofun⟩

namespace State.streamsOk
variable {s : State} (h : s.streamsOk) {i : Fin 32} {e : NodeEntry}
include h

theorem downed : (s.downed i e).streamsOk := by
  refine h.eachStream i (by simp) (fun j ne => ?_) _ (fun k c node fits ok => ?_) (fun k c node => ?_)
  · rw [State.nodeState, State.emit_nodes]
    exact (s.nodeState_put _).trans (if_neg ne)
  · have down : State.nodeState (State.emit { s with nodes := s.nodes.set i (some { e with
        state := .down, probeCountdown := s.timer.timing.probeInterval }) } [.add (.nodeDown i), .raise .node]) i =
        some .down := by
      rw [State.nodeState, State.emit_nodes]
      exact (s.nodeState_put _).trans (if_pos rfl)
    rw [down]
    split
    · exact ⟨rfl, ⟨.down, rfl, nofun, fun _ => rfl⟩, ok.setAside _⟩
    next inactive => exact ⟨rfl, ⟨.down, rfl, fun active => absurd ⟨node, active⟩ inactive, fun _ => rfl⟩, ok⟩
  · rw [if_neg fun h => node h.1]

theorem goDown (entry : s.nodes[i] = some e) (before : NodeEntry) : (s.goDown i before).streamsOk := by
  cases slot : before.slot with
  | none =>
    rw [State.goDown_of_empty entry slot]
    exact h.downed
  | some p =>
    rw [State.goDown_of_payload entry slot]
    exact h.downed.resolve i p _ _

/-- Some streams of a node restarted, ACTIVE, with the node's State not DOWN from here on: the SUSPENDED ones at least, unless
the node was not DOWN before. -/
theorem restartSome {t : State} (streams : t.streams = s.streams) (nodes : ∀ j, i ≠ j → t.nodeState j = s.nodeState j)
    {after : NodeState} (new : t.nodeState i = some after) (live : after ≠ .down) (some : StreamState → Prop)
    [DecidablePred some] (all : some .suspended ∨ ∃ before ∈ s.nodeState i, before ≠ .down)
    (effects : Fin 64 → StreamCtx → List Effect) : (t.eachStream fun k c =>
      if c.config.node = i ∧ some c.state then (c.restarted .active, effects k c) else (c, [])).streamsOk := by
  refine h.eachStream i streams nodes _ (fun k c node fits ok => ?_) (fun k c node => ?_)
  · rw [new]
    split
    · exact ⟨rfl, c.restarted_active_fits live, StreamCtx.restarted_ok ok.config _⟩
    next kept =>
      refine ⟨rfl, ⟨after, rfl, fun _ => live, fun susp => ?_⟩, ok⟩
      obtain ⟨before, old, -, suspended⟩ := fits
      obtain all | ⟨before', old', live'⟩ := all
      · exact absurd ⟨node, susp ▸ all⟩ kept
      · obtain rfl := Option.some.inj (old.symm.trans old')
        exact absurd (suspended susp) live'
  · rw [if_neg fun h => node h.1]

/-! ### The stages of a valid reply -/

omit h in
theorem nodeState_stageLiveness (entry : s.nodes[i] = some e) (before : NodeState) (f : Bool) (j : Fin 32) :
    (s.stageLiveness i before f).nodeState j = if i = j then some .up else s.nodeState j := by
  rw [← State.nodeState_put s { e with state := .up, retryCount := 0 }, State.stageLiveness_eq entry before f _ rfl]
  split
  · rw [State.nodeState, State.resumeStreams, State.eachStream_nodes, State.emit_nodes, State.nodeState]
  · rw [State.nodeState, State.emit_nodes, State.nodeState]

theorem stageLiveness (entry : s.nodes[i] = some e) (f : Bool) : (s.stageLiveness i e.state f).streamsOk := by
  have new (j : Fin 32) (effects : List Effect) : State.nodeState (State.emit { s with nodes := s.nodes.set i (some { e with
      state := .up, retryCount := 0 }) } effects) j = if i = j then some .up else s.nodeState j := by
    rw [State.nodeState, State.emit_nodes]
    exact s.nodeState_put _
  have old : s.nodeState i = some e.state := by rw [State.nodeState, entry, Option.map_some]
  rw [State.stageLiveness_eq entry e.state f _ rfl]
  split
  · exact h.restartSome (by simp) (fun j ne => (new j _).trans (if_neg ne)) ((new i _).trans (if_pos rfl)) (by decide)
      (· = .suspended) (.inl rfl) _
  next live =>
    exact h.liveState i (by simp) (fun j ne => (new j _).trans (if_neg ne)) old ((new i _).trans (if_pos rfl)) live (by decide)

theorem stageRestart (up : s.nodeState i = some .up) (before : NodeState) (f : Bool) :
    (s.stageRestart i before f).streamsOk := by
  have indicated (j : Fin 32) : (s.modifyNode i NodeEntry.restartIndicated).nodeState j = s.nodeState j :=
    s.nodeState_modifyNode fun _ => rfl
  cases f with
  | false => exact h
  | true =>
    rw [State.stageRestart_of_true]
    split
    · exact h.modifyNode i fun _ => rfl
    · exact h.restartSome (t := s.modifyNode i NodeEntry.restartIndicated) rfl (fun j _ => indicated j) ((indicated i).trans up) (by decide) (· = .active)
        (.inr ⟨.up, up, by decide⟩) _

theorem holdRecord (kind : ReplyKind) : (s.modifyNode i (·.holdRecord kind)).streamsOk :=
  h.modifyNode i fun e => by cases kind <;> rfl

theorem evaluateA (e : NodeEntry) (kind : ReplyKind) (a : Bool) : (s.evaluateA i e kind a).streamsOk := by
  unfold State.evaluateA
  split
  next p _ =>
    split
    · unfold State.notTaken
      split
      · exact h.resolve i p _ _
      · split
        · exact h.resolve i p _ _
        · exact h
    · split
      · exact (h.modifyNode i (f := fun e => { e with slot := none, sendTx := !e.sendTx }) fun _ => rfl).emit _
      · exact h.protocolError i
  next =>
    split
    · exact h.modifyNode i fun _ => rfl
    · exact (h.modifyNode i (f := fun e => { e with resync := none, sendTx := !e.sendTx }) fun _ => rfl).emit _
  · split
    · exact h
    · exact h.protocolError i

theorem stageA (kind : ReplyKind) (a carried : Bool) : (s.stageA i kind a carried).streamsOk := by
  have answered : (s.modifyNode i (·.answered carried)).streamsOk := h.modifyNode i fun e => by cases carried <;> rfl
  unfold State.stageA
  dsimp only
  split
  · exact answered.evaluateA _ kind a
  · exact answered

/-! ### The dispatch of blocks (R78) -/

/-- One stream changed, its configuration kept. -/
theorem setStream {k : Fin 64} {c d : StreamCtx} (stream : s.streams[k] = some c) (config : d.config = c.config)
    (fits : c.fits (s.nodeState c.config.node) → d.fits (s.nodeState c.config.node)) (ok : c.ok → d.ok) :
    (s.setStream k (some d)).streamsOk := by
  refine h.of_streams fun j d' mem => ?_
  by_cases same : k = j
  · subst same
    rw [State.setStream_get_self] at mem
    obtain rfl := Option.some.inj mem
    exact ⟨c, stream, config, fun old inOrder => ⟨fits old, ok inOrder⟩⟩
  · rw [State.setStream_get_ne s same] at mem
    exact ⟨d', mem, rfl, fun old inOrder => ⟨old, inOrder⟩⟩

theorem dispatch (b : Block) : (s.dispatch i b).streamsOk := by
  cases bound : s.bound i b.tag with
  | none =>
    rw [State.dispatch_of_unbound bound]
    exact h
  | some k =>
    obtain ⟨c, stream, -⟩ := State.bound_holds bound
    by_cases active : c.state = .active
    · by_cases kind : b.kind = c.config.kind
      · rw [State.dispatch_of_match bound stream active kind]
        exact (h.setStream (d := { c with run := (c.run.takeBlock k c.config s.timer.cycleNumber b).1 }) stream rfl id fun ok =>
          ⟨ok.config, ok.run.takeBlock k ok.config _ b, fun inactive => absurd active inactive⟩).emit _
      · rw [State.dispatch_of_mismatch bound stream active kind]
        exact h.setStream (d := { c with run := { c.run with kindMismatch := bump c.run.kindMismatch } }) stream rfl id fun ok =>
          ⟨ok.config, ok.run.congr rfl ok.run.countdown rfl rfl rfl rfl ok.run.cycles, ok.inside⟩
    · rw [State.dispatch_of_inactive bound stream active]
      exact h

theorem dispatchAll (blocks : List Block) : (blocks.foldl (fun s b => s.dispatch i b) s).streamsOk := by
  induction blocks generalizing s with
  | nil => exact h
  | cons b blocks ih => exact ih (h.dispatch b)

theorem stageData (g sBit : Bool) (payload : List Byte) : (s.stageData i g sBit payload).streamsOk := by
  have checked {t : State} (h : t.streamsOk) : State.streamsOk (if g then t else t.protocolError i) := by
    split
    · exact h
    · exact h.protocolError i
  unfold State.stageData
  split
  · exact checked (h.protocolError i)
  next blocks _ =>
    unfold State.sequenceCheck
    dsimp only
    split
    · exact checked h
    · split
      · exact ((checked h).modifyNode i (f := fun e => { e with expectRx := !e.expectRx }.tally fun c =>
          { c with accepted := bump c.accepted }) fun _ => rfl).dispatchAll blocks
      · exact (checked h).modifyNode i fun _ => rfl

theorem validReply (x : Exchange) (r : NodeReply) : (s.validReply x r).streamsOk := by
  unfold State.validReply
  split
  · exact h
  next e entry =>
    have settled := (((h.stageLiveness entry r.f).stageRestart
      ((nodeState_stageLiveness entry e.state r.f x.node).trans (if_pos rfl)) e.state r.f).holdRecord (i := x.node) r.kind).stageA
        (i := x.node) r.kind r.a x.carried
    dsimp only
    split
    · exact settled.stageData _ _ _
    · exact settled
    · exact settled

/-! ### A failed exchange, and the end of an exchange -/

theorem failedExchange (x : Exchange) (how : Failure) : (s.failedExchange x how).streamsOk := by
  cases entry : s.nodes[x.node] with
  | none =>
    rw [State.failedExchange, entry]
    exact h
  | some e =>
    have old : s.nodeState x.node = some e.state := by rw [State.nodeState, entry, Option.map_some]
    have sameState (e' : NodeEntry) (same : e'.state = e.state) :
        State.streamsOk { s with nodes := s.nodes.set x.node (some e') } := by
      refine h.congr rfl fun j => (s.nodeState_put e').trans ?_
      split
      next eq => rw [← eq, old, same]
      · rfl
    by_cases down : e.state = .down
    · rw [State.failedExchange_of_down entry how down]
      exact sameState _ rfl
    · by_cases below : e.retryCount + 1 < s.timer.timing.retryLimit
      · have failed : State.streamsOk { s with nodes := s.nodes.set x.node (some (e.failedBelow how)) } :=
          h.liveState x.node rfl (fun j ne => (s.nodeState_put _).trans (if_neg ne)) old
            ((s.nodeState_put _).trans (if_pos rfl)) down fun failed => down ((NodeState.failed_eq_down _).1 failed)
        rw [State.failedExchange_of_below entry how down below]
        unfold State.failedAttempt
        split
        · split
          · exact failed.resolve x.node _ _ _
          · exact failed
        · exact failed
      · rw [State.failedExchange_of_limit entry how down (Nat.le_of_not_lt below)]
        have retried := sameState
          { e with retryCount := s.timer.timing.retryLimit, counters := e.counters.failed how } rfl
        exact retried.goDown (Vector.getElem_set_self _) e

theorem endExchange (x : Exchange) : (s.endExchange x).streamsOk := by
  refine h.congr (by simp) fun j => ?_
  rw [State.nodeState, State.endExchange_nodes, ← State.nodeState]
  unfold State.probed
  split
  · exact s.nodeState_modifyNode fun _ => rfl
  · rfl

end State.streamsOk

/-! ## The other changes at the streams -/

namespace State.streamsOk
variable {s : State} (h : s.streamsOk)
include h

theorem boundary (untaken : Nat) : (s.boundary untaken).streamsOk := by
  rw [State.boundary_eq]
  refine h.congr rfl fun j => s.nodeState_map rfl fun e => ?_
  rw [NodeEntry.probeTick_eq]
  split <;> rfl

theorem tick : s.tick.streamsOk := by
  refine h.of_streams fun i d mem => ?_
  rw [show s.tick.streams[i] = s.streams[i].map StreamCtx.tick from Vector.getElem_map _ i.isLt,
    Option.map_eq_some_iff] at mem
  obtain ⟨c, stream, rfl⟩ := mem
  have kept : c.tick.config = c.config ∧ c.tick.state = c.state := by
    unfold StreamCtx.tick
    split
    · split <;> exact ⟨rfl, rfl⟩
    · exact ⟨rfl, rfl⟩
  refine ⟨c, stream, kept.1, fun fits ok => ⟨?_, ok.tick⟩⟩
  rw [StreamCtx.fits, kept.2]
  exact fits

theorem streamEngineBoundary : s.streamEngineBoundary.streamsOk := by
  unfold State.streamEngineBoundary
  split
  next ended rest _ =>
    refine h.of_streams fun i d mem => ?_
    rw [State.eachStream_streams, Option.map_eq_some_iff] at mem
    obtain ⟨c, stream, rfl⟩ := mem
    refine ⟨c, stream, c.boundary_config i ended, fun fits ok => ⟨?_, ok.boundary i ended⟩⟩
    rw [StreamCtx.fits, StreamCtx.boundary_state, State.nodeState, State.eachStream_nodes]
    exact fits
  · exact h

/-- FLUSH restarts every stream, and no node is DOWN after it (R2, R67). -/
theorem flush : s.flush.streamsOk := by
  refine h.of_streams fun i d mem => ?_
  rw [show s.flush.streams[i] = s.streams[i].map StreamCtx.flush from Vector.getElem_map _ i.isLt,
    Option.map_eq_some_iff] at mem
  obtain ⟨c, stream, rfl⟩ := mem
  refine ⟨c, stream, rfl, fun fits ok => ⟨?_, StreamCtx.restarted_ok ok.config _⟩⟩
  obtain ⟨st, mem, -⟩ := fits
  obtain ⟨e, entry, rfl⟩ := Option.map_eq_some_iff.1 mem
  have unknown : s.flush.nodeState c.config.node = some .unknown := by
    rw [State.nodeState, show s.flush.nodes[c.config.node] = s.nodes[c.config.node].map NodeEntry.flush from
      Vector.getElem_map _ (Fin.isLt _), entry]
    rfl
  refine ⟨.unknown, unknown, fun _ => by decide, fun suspended => ?_⟩
  cases state : c.state <;> simp [StreamCtx.flush, StreamCtx.restarted, state] at suspended

/-- NODE SET makes the node UNKNOWN; its streams, if the entry was in use, are restarted (R18, R77). -/
theorem setNode (i : Fin 32) (address : Byte) : (s.setNode i address).streamsOk := by
  have states (j : Fin 32) : (s.withFreshNode i address).nodeState j = if i = j then some .unknown else s.nodeState j :=
    s.nodeState_put (NodeEntry.fresh address)
  by_cases free : s.nodes[i] = none
  · rw [State.setNode_of_free free]
    refine h.of_streams fun k c stream => ⟨c, stream, rfl, fun fits ok => ⟨?_, ok⟩⟩
    rw [states]
    split
    next node =>
      obtain ⟨st, mem, -⟩ := fits
      rw [← node, State.nodeState, free] at mem
      cases mem
    · exact fits
  · rw [State.setNode_of_inUse free]
    exact h.restartSome (t := s.withFreshNode i address) (i := i) rfl (fun j ne => (states j).trans (if_neg ne))
      ((states i).trans (if_pos rfl)) (by decide) (· ≠ .idle) (.inl (by decide)) _

/-- NODE DELETE frees an entry that no stream names (R19). -/
theorem freeNode {i : Fin 32} (unbound : ¬ s.nodeBound i = true) : State.streamsOk { s with nodes := s.nodes.set i none } := by
  refine h.of_streams fun k c stream => ⟨c, stream, rfl, fun fits ok => ⟨?_, ok⟩⟩
  have ne : (i : Nat) ≠ c.config.node := fun eq => unbound (State.nodeBound_iff.2 ⟨k, c, stream, (Fin.ext eq).symm⟩)
  rw [State.nodeState, show (s.nodes.set i none)[c.config.node] = s.nodes[c.config.node] from
    Vector.getElem_set_ne _ _ ne]
  exact fits

/-- STREAM SET binds a pair that no other stream holds, to a node in use (R70). -/
theorem newStream {i : Fin 64} {node : Fin 32} {tag : Fin 8} {config : StreamConfig} (inUse : s.nodes[node].isNone = false)
    (free : ¬ s.pairTaken i node tag = true) (ok : config.ok) (pair : config.node = node ∧ config.tag = tag) :
    (s.setStream i (some (StreamCtx.set config))).streamsOk := by
  obtain ⟨rfl, rfl⟩ := pair
  have other (j : Fin 64) (ne : i ≠ j) (c : StreamCtx) (stream : s.streams[j] = some c) :
      ¬ (c.config.node = config.node ∧ c.config.tag = config.tag) := fun same =>
    free (State.pairTaken_iff.2 ⟨j, c, ne.symm, stream, same⟩)
  refine ⟨fun j c stream => ?_, fun j k ne c stream d stream' => ?_⟩
  · by_cases eq : i = j
    · subst eq
      rw [State.setStream_get_self] at stream
      obtain rfl := Option.some.inj stream
      obtain ⟨e, entry⟩ := Option.isSome_iff_exists.1 (Option.isNone_eq_false_iff.1 inUse)
      exact State.streamOk_iff.2 ⟨⟨e, entry, nofun, nofun⟩, ok, StreamRun.fresh_ok ok, fun _ => rfl⟩
    · rw [State.setStream_get_ne s eq] at stream
      exact h.1 j c stream
  · by_cases eqJ : i = j
    · subst eqJ
      rw [State.setStream_get_self] at stream
      rw [State.setStream_get_ne s ne] at stream'
      obtain rfl := Option.some.inj stream
      exact fun same => other k ne d stream' ⟨same.1.symm, same.2.symm⟩
    · rw [State.setStream_get_ne s eqJ] at stream
      by_cases eqK : i = k
      · subst eqK
        rw [State.setStream_get_self] at stream'
        obtain rfl := Option.some.inj stream'
        exact other j eqJ c stream
      · rw [State.setStream_get_ne s eqK] at stream'
        exact h.2 j k ne c stream d stream'

/-- STREAM DELETE makes a stream UNUSED (R73). -/
theorem deleteStream (i : Fin 64) : (s.setStream i none).streamsOk := by
  refine h.of_streams fun j d mem => ⟨d, ?_, rfl, fun fits ok => ⟨fits, ok⟩⟩
  by_cases eq : i = j
  · subst eq
    rw [State.setStream_get_self] at mem
    cases mem
  · rwa [State.setStream_get_ne s eq] at mem

/-- STREAM ENABLE restarts a stream in the state that its node's State gives (R71). -/
theorem enable {i : Fin 64} {c : StreamCtx} (stream : s.streams[i] = some c) :
    (s.setStream i (some (c.restarted (s.enabledState c.config.node)))).streamsOk := by
  refine h.setStream (d := c.restarted (s.enabledState c.config.node)) stream rfl (fun fits => ?_) fun ok =>
    StreamCtx.restarted_ok ok.config _
  obtain ⟨st, mem, -⟩ := fits
  obtain ⟨e, entry, rfl⟩ := Option.map_eq_some_iff.1 mem
  refine ⟨e.state, mem, ?_⟩
  by_cases down : e.state = .down
  · rw [State.enabledState_of_down ⟨e, entry, down⟩]
    exact ⟨nofun, fun _ => down⟩
  · have up : ¬ ∃ e', s.nodes[c.config.node] = some e' ∧ e'.state = .down := by
      rintro ⟨e', entry', down'⟩
      obtain rfl := Option.some.inj (entry.symm.trans entry')
      exact down down'
    rw [State.enabledState_of_notDown up]
    exact ⟨fun _ => down, nofun⟩

end State.streamsOk

/-! ## Every change and every step -/

/-- Every change outside master reset keeps the streams in order. -/
theorem Change.keeps_streamsOk {s t : State} (h : s.streamsOk) (change : Change s t) : t.streamsOk := by
  cases change with
  | transmit => exact h.congr (by simp) fun _ => by simp [State.nodeState]
  | tick => exact h.tick
  | boundary counter untaken =>
    exact State.streamsOk.boundary (s := { s with timer := { s.timer with cycleCounter := counter } }) h untaken
  | start =>
    exact State.streamsOk.boundary (s := { s with timer := { s.timer with engine := .running, cycleCounter := 0 } }) h 0
  | streamEngine => exact h.streamEngineBoundary
  | assembler => exact h.congr (by simp) fun _ => by simp [State.nodeState]
  | stop =>
    simp only [State.stop]
    split <;> exact h
  | beaconSent => exact h.congr (by simp) fun _ => by simp [State.nodeState]
  | poll position i probe e => exact h.congr rfl fun _ => State.nodeState_modifyNode _ fun _ => rfl
  | measure => exact h.congr (by simp) fun _ => by simp [State.nodeState]
  | failed x how => exact (h.failedExchange x how).endExchange x
  | replied x r => exact (h.validReply x r).endExchange x
  | flush => exact h.flush
  | setTiming t => exact h.congr rfl fun _ => s.nodeState_map (f := NodeEntry.limited s.timer.timing t) rfl fun _ => rfl
  | setNode i address => exact h.setNode i address
  | freeNode i unbound => exact h.freeNode unbound
  | clearNode i => exact h.congr rfl fun _ => s.nodeState_modifyNode fun _ => rfl
  | fill i => exact h.modifyNode i fun _ => rfl
  | cancel i p => exact h.resolve i p _ _
  | setStream i node tag args config inUse free parsed =>
    obtain ⟨argsOk, rfl⟩ := parseStream_eq_some_iff.1 parsed
    exact h.newStream inUse free (argsOk.configOk node tag) ⟨rfl, rfl⟩
  | enable i c stream => exact h.enable stream
  | disable i c stream =>
    exact (h.setStream (d := c.setAside .idle) stream rfl (fun ⟨st, node, _⟩ => ⟨st, node, nofun, nofun⟩) fun ok => ok.setAside .idle).emit _
  | deleteStream i => exact h.deleteStream i
  | readStream i c stream =>
    exact h.setStream (d := c.afterRead) stream rfl id fun ok =>
      ⟨ok.config, ok.run.congr rfl ok.run.countdown rfl rfl rfl rfl ok.run.cycles, ok.inside⟩
  | _ => exact h

/-- Settles O59, by the induction over a step; the end of master reset leaves every stream UNUSED. -/
theorem everyStepKeepsStreams : Obligations.EveryStepKeepsStreams := by
  unfold Obligations.EveryStepKeepsStreams
  intro s t
  refine step_keeps (P := State.streamsOk) (fun _ _ h => h) (fun _ _ h => h) (fun s cause r1 r0 => ?_)
    fun _ _ _ h => Change.keeps_streamsOk h
  have unused (i : Fin 64) (c : StreamCtx) : ¬ (s.afterReset cause r1 r0).streams[i] = some c := by
    simp [State.afterReset, State.masterReset]
  exact ⟨fun i c mem => absurd mem (unused i c), fun i _ _ c mem => absurd mem (unused i c)⟩

end Sys2Proof.Machine

/-! SUPPORT. The step itself, master reset, and the events of the clock and of the beacon: the statements on a step without and
with a command, on master reset and its end, on the tick, on HALT and the reactions to a boundary, and on beacons (R24, R27,
R30, R51, R124, R137, R177). -/

namespace Sys2Proof.Machine

/-! ## The step -/

/-- Settles O1: the step's first case. -/
theorem stepRunsFrontCommand : Obligations.StepRunsFrontCommand := by
  unfold Obligations.StepRunsFrontCommand
  intro s c rest pending
  rw [step, pending]

/-- Settles O2: the three cases of a reference period. -/
theorem idleStepIsOneReferencePeriod : Obligations.IdleStepIsOneReferencePeriod := by
  unfold Obligations.IdleStepIsOneReferencePeriod
  intro s none
  have idle : step s = .next s.referencePeriod := by rw [step, none]
  have running (live : s.live) : ¬ s.holding.isSome = true := Option.not_isSome_iff_eq_none.2 live
  rw [idle, State.referencePeriod]
  refine ⟨fun held => ?_, fun live within => ?_, fun live last => ?_⟩
  · rw [if_pos (Option.isSome_iff_ne_none.2 held)]
  · rw [if_neg (running live), if_pos within]
  · rw [if_neg (running live), if_neg (Nat.not_lt.2 last)]

/-- Every command answers a next state. -/
theorem exec_next (c : Instr) (s : State) : ∃ t, exec c s = .next t := by
  cases c <;> exact ⟨_, rfl⟩

/-- No change touches the queue of commands. -/
theorem Change.pending {s t : State} (h : Change s t) : t.pending = s.pending := by
  cases h with
  | transmit source => cases source <;> simp only [State.takeFrame] <;> split <;> rfl
  | boundary => simp [State.boundary]
  | start => simp [State.start, State.boundary]
  | streamEngine => exact (congrArg State.pending s.streamEngineBoundary_rest :)
  | assembler =>
    unfold State.assemblerBoundary
    split <;> rfl
  | stop =>
    simp only [State.stop]
    split <;> rfl
  | beaconSent => simp
  | measure =>
    unfold State.measure
    split <;> simp
  | failed x how =>
    rw [State.endExchange_eq, State.stopIfStopping_pending, State.portToIdle_pending]
    exact (congrArg State.pending ((State.probed_rest _ x).trans (s.failedExchange_rest x how)) :)
  | replied x r =>
    rw [State.endExchange_eq, State.stopIfStopping_pending, State.portToIdle_pending]
    exact (congrArg State.pending ((State.probed_rest _ x).trans (s.validReply_rest x r)) :)
  | setNode =>
    simp only [State.setNode]
    split <;> simp [State.resetStreams]
  | cancel => simp
  | disable => simp
  | _ => rfl

theorem Reaches.pending {s t : State} (h : Reaches s t) : t.pending = s.pending := by
  induction h with
  | refl => rfl
  | tail _ next ih => exact next.pending.trans ih

/-- Settles O3: outside master reset a step is a series of changes, and in it a step does nothing or is the reset's own. -/
theorem noCommandStopsTheBlock : Obligations.NoCommandStopsTheBlock := by
  unfold Obligations.NoCommandStopsTheBlock
  intro c s
  obtain ⟨t, next⟩ := exec_next c s
  refine ⟨t, next, ?_⟩
  by_cases isReset : (∃ cause, c = .masterReset cause) ∨ ∃ r1 r0, c = .masterResetEnd r1 r0
  · obtain ⟨cause, rfl⟩ | ⟨r1, r0, rfl⟩ := isReset
    · obtain rfl | rfl := exec_masterReset next <;> rfl
    · obtain rfl | ⟨cause, rfl⟩ := exec_masterResetEnd next <;> rfl
  · simp only [not_or, not_exists] at isReset
    by_cases live : s.live
    · exact (exec_reaches isReset.1 isReset.2 next).pending
    · rw [exec_of_held live (isReset.1 .power) isReset.2] at next
      rw [Host.Outcome.next.inj next]

/-! ## Master reset (R177) -/

/-- Settles O4: RESET_N in a running part and a loss of power at any time, and the commands of a part that is held. -/
theorem masterResetHoldsThePart : Obligations.MasterResetHoldsThePart := by
  unfold Obligations.MasterResetHoldsThePart
  refine ⟨fun cause s begins => ?_, fun c s held notPower notEnd => exec_of_held held notPower notEnd⟩
  obtain live | rfl := begins
  · simp only [exec, execMasterReset, live]
    rfl
  · cases held : s.holding <;> simp only [exec, execMasterReset, held] <;> rfl

/-- Settles O5: the values of Table 10-4, and the end of a reset that is not in progress. -/
theorem resetEndGivesMasterResetValues : Obligations.ResetEndGivesMasterResetValues := by
  unfold Obligations.ResetEndGivesMasterResetValues
  refine ⟨fun cause rate1 rate0 s held => ?_, fun rate1 rate0 s live => ?_, rfl⟩
  · simp only [exec, execMasterResetEnd, held]
    rfl
  · simp only [exec, execMasterResetEnd, live]

/-- Settles O60: each invariant of the part right after the power-on reset. -/
theorem resetIsInOrder : Obligations.ResetIsInOrder := by
  unfold Obligations.ResetIsInOrder
  have free (i : Fin 32) (e : NodeEntry) : ¬ State.reset.nodes[i] = some e := by
    simp [State.reset, State.masterReset]
  have unused (i : Fin 64) (c : StreamCtx) : ¬ State.reset.streams[i] = some c := by
    simp [State.reset, State.masterReset]
  exact ⟨State.afterReset_clockOk State.reset .power false false, by decide,
    by decide, by decide, State.afterReset_portOk State.reset .power false false,
    State.afterReset_nodesOk State.reset .power false false,
    ⟨fun i c mem => absurd mem (unused i c), fun i _ _ c mem => absurd mem (unused i c)⟩, rfl, rfl⟩

/-! ## The tick (R24, R25, R49, R80) -/

theorem countDown_eq_map (timer : Option Nat) : countDown timer = timer.map (· - 1) := by
  unfold countDown
  split <;> rfl

theorem StreamCtx.tick_of_active {c : StreamCtx} (active : c.state = .active) : c.tick = { c with run := { c.run with
    elapsed := if c.run.elapsed = 65535 then 65535 else c.run.elapsed + 1
    elapsedOver := c.run.elapsedOver || c.run.elapsed == 65535 } } := by
  rw [StreamCtx.tick, if_pos active]
  by_cases full : c.run.elapsed = 65535
  · rw [if_pos full, if_pos full]
    simp only [full, beq_self_eq_true, Bool.or_true]
  · rw [if_neg full, if_neg full, beq_false_of_ne full, Bool.or_false]

/-- Settles O6: the tick's fields, the meters stream by stream. -/
theorem tickAdvancesCountersAndTimers : Obligations.TickAdvancesCountersAndTimers := by
  unfold Obligations.TickAdvancesCountersAndTimers
  intro s live
  refine ⟨s.streams.map fun c => c.map StreamCtx.tick, ?_, fun i => ?_⟩
  · rw [exec, execTick, event_of_live live, State.tick, countDown_eq_map, countDown_eq_map]
  · rw [show (s.streams.map fun c => c.map StreamCtx.tick)[i] = s.streams[i].map StreamCtx.tick from
      Vector.getElem_map _ i.isLt]
    refine congrArg (fun f => s.streams[i].map f) (funext fun c => ?_)
    split
    next active => exact StreamCtx.tick_of_active active
    next inactive => exact if_neg inactive

/-! ## HALT (R30, R45) -/

theorem State.stop_of_idle {s : State} (idle : s.port.state = .idle) :
    s.stop = State.enterHalted { s with sched := { s.sched with beacon := none } } := if_pos idle

theorem State.stop_of_busy {s : State} (busy : s.port.state ≠ .idle) : s.stop = { s with
    timer := { s.timer with engine := .stopping }, sched := { s.sched with beacon := none } } := if_neg busy

/-- HALT in RUNNING, from the state in which every reaction to a boundary has been taken (R30, R45). -/
theorem exec_halt_of_running {s : State} (ref : Word16) (accepts : s.accepts) (running : s.timer.engine = .running) :
    exec (.halt ref) s = .next (s.takeNotices.settle
      (s.takeNotices.stop.replied 0x12 ref .ok [s.takeNotices.stop.timer.engine.code])) := by
  rw [exec, execHalt, command_of_accepts accepts, halt, if_pos running]
  rfl

theorem exec_halt_of_notRunning {s : State} (ref : Word16) (accepts : s.accepts) (stopped : s.timer.engine ≠ .running) :
    exec (.halt ref) s = .next (s.settle (s.replied 0x12 ref .ok [s.timer.engine.code])) :=
  command_of_answer accepts 0x12 ref (if_neg stopped)

/-- Settles O10: the reactions still to come one at a time, and HALT in each state of the engine and of the port. -/
theorem haltStopsTheEngine : Obligations.HaltStopsTheEngine := by
  unfold Obligations.HaltStopsTheEngine
  refine ⟨fun s => ⟨s.takeNotices_notices, State.takeNotices_none, fun some none => ?_, fun none some => ?_,
    fun some some' drawn eq => ?_⟩, ?halt⟩
  · rw [State.takeNotices_step (.inl some), State.takeNotice_streamEngine some none]
  · rw [State.takeNotices_step (.inr some), State.takeNotice_assembler none]
  · rw [State.takeNotices_step (.inl some)]
    exact (State.takeNotice_both some some' eq).imp (congrArg State.takeNotices) (congrArg State.takeNotices)
  case halt =>
    rintro ref s _ accepts rfl
    obtain ⟨-, -, -, port, -⟩ := s.takeNotices_kept
    refine ⟨fun running idle => ?_, fun running busy => ?_, fun stopping => ?_, fun halted => ?_⟩
    · rw [exec_halt_of_running ref accepts running, State.stop_of_idle (by rw [port, idle])]
      cases isOpen : s.takeNotices.queue.openFrame with
      | none => simp only [State.enterHalted, UplinkQueue.close_of_none isOpen]; rfl
      | some f => simp only [State.enterHalted, UplinkQueue.close_of_some isOpen]; rfl
    · rw [exec_halt_of_running ref accepts running, State.stop_of_busy (by rwa [port])]
      rfl
    · rw [exec_halt_of_notRunning ref accepts (by rw [stopping]; decide), stopping]
      rfl
    · rw [exec_halt_of_notRunning ref accepts (by rw [halted]; decide), halted]
      rfl

/-! ## The reactions to a boundary (R81, R122 to R124, R137) -/

theorem State.streamEngineBoundary_of_cons {s : State} {ended : Word16} {rest : List Word16}
    (waits : s.notices.streamEngine = ended :: rest) : s.streamEngineBoundary =
      ({ s with notices := { s.notices with streamEngine := rest } } : State).eachStream fun i c => c.boundary i ended := by
  simp only [State.streamEngineBoundary, waits]

theorem State.assemblerBoundary_of_succ {s : State} {n : Nat} (waits : s.notices.assembler = n + 1) :
    s.assemblerBoundary = { s with
      notices := { s.notices with assembler := n }, queue := s.queue.close fun c => { c with boundary := true } } := by
  simp only [State.assemblerBoundary, waits]

/-- CyclesSinceBlock after a boundary (R81). -/
def StreamRun.nextCycles (r : StreamRun) (c : StreamConfig) : Nat :=
  if c.staleLimit = 0 then r.cyclesSince else bumpTo 255 r.cyclesSince

/-- The boundary makes the stream Stale (R81). -/
def StreamRun.turnsStale (r : StreamRun) (c : StreamConfig) : Bool :=
  c.staleLimit != 0 && r.nextCycles c == c.staleLimit && !r.stale

theorem StreamRun.turnsStale_iff {r : StreamRun} {c : StreamConfig} : r.turnsStale c = true ↔
    c.staleLimit ≠ 0 ∧ r.nextCycles c = c.staleLimit ∧ r.stale = false := by
  simp [StreamRun.turnsStale, and_assoc]

theorem StreamRun.staleCheck_eq (r : StreamRun) (i : Fin 64) (c : StreamConfig) : r.staleCheck i c =
    ({ r with cyclesSince := r.nextCycles c, stale := r.stale || r.turnsStale c },
      if r.turnsStale c = true then [.add (.stale i r.elapsed), .raise .stale] else []) := by
  unfold StreamRun.staleCheck
  by_cases unlimited : c.staleLimit = 0
  · have keeps : r.turnsStale c = false := Bool.eq_false_iff.2 fun turns => (StreamRun.turnsStale_iff.1 turns).1 unlimited
    rw [if_pos unlimited, keeps, Bool.or_false, StreamRun.nextCycles, if_pos unlimited]
    rfl
  · have next : r.nextCycles c = bumpTo 255 r.cyclesSince := if_neg unlimited
    by_cases turns : r.turnsStale c = true
    · obtain ⟨-, reached, fresh⟩ := StreamRun.turnsStale_iff.1 turns
      rw [if_neg unlimited, if_pos turns, turns, Bool.or_true, ← next]
      exact if_pos ⟨reached, fresh⟩
    · have keeps : ¬ (r.nextCycles c = c.staleLimit ∧ r.stale = false) := fun h =>
        turns (StreamRun.turnsStale_iff.2 ⟨unlimited, h⟩)
      rw [if_neg unlimited, if_neg turns, Bool.eq_false_iff.2 turns, Bool.or_false, ← next]
      exact if_neg keeps

/-- A boundary at an ACTIVE stream: the stale check, and then the integrator's part (R124). -/
theorem StreamCtx.boundary_of_active {c : StreamCtx} (active : c.state = .active) (i : Fin 64) (ended : Word16) :
    c.boundary i ended =
      ({ c with run := ((c.run.staleCheck i c.config).1.windowBoundary i c.config ended).1 },
        (c.run.staleCheck i c.config).2 ++ ((c.run.staleCheck i c.config).1.windowBoundary i c.config ended).2) :=
  if_pos active

section Window
variable {r : StreamRun} {c : StreamConfig} (i : Fin 64) (ended : Word16)

theorem StreamRun.windowBoundary_of_off (mode : c.integrator = .off) : r.windowBoundary i c ended = (r, []) := by
  simp only [StreamRun.windowBoundary, mode]

theorem StreamRun.windowBoundary_of_cycle (mode : c.integrator = .cycle) :
    r.windowBoundary i c ended = (r.emptyWindow, [.add (r.summary i c true ended)]) := by
  simp only [StreamRun.windowBoundary, mode]

theorem StreamRun.windowBoundary_of_count {n : Nat} {align : Bool} (mode : c.integrator = .count n align) :
    r.windowBoundary i c ended = (if r.waiting then { r with waiting := false }.emptyWindow else r, []) := by
  simp only [StreamRun.windowBoundary, mode]
  split <;> rfl

end Window

/-- Settles O11: the two reactions, and a boundary at one stream in each mode of its integrator. -/
theorem streamEngineAndAssemblerTakeBoundary : Obligations.StreamEngineAndAssemblerTakeBoundary := by
  unfold Obligations.StreamEngineAndAssemblerTakeBoundary
  refine ⟨⟨fun s live => ⟨event_of_live live _, event_of_live live _⟩, fun s ended rest waits =>
    State.streamEngineBoundary_of_cons waits, fun c i ended => ⟨fun inactive => if_neg inactive, fun active => ?stream⟩⟩,
    fun s n waits => ⟨fun f isOpen => ?_, fun none => ?_⟩⟩
  case stream =>
    refine ⟨c.run.nextCycles c.config, rfl, c.run.turnsStale c.config, StreamRun.turnsStale_iff, _, rfl, fun mode => ?_,
      fun mode => ?_, fun k align mode => ?_⟩
    · rw [StreamCtx.boundary_of_active active, StreamRun.windowBoundary_of_cycle i ended mode, StreamRun.staleCheck_eq]
      rfl
    · rw [StreamCtx.boundary_of_active active, StreamRun.windowBoundary_of_off i ended mode, StreamRun.staleCheck_eq,
        List.append_nil]
    · rw [StreamCtx.boundary_of_active active, StreamRun.windowBoundary_of_count i ended mode, StreamRun.staleCheck_eq,
        List.append_nil]
      rfl
  · rw [State.assemblerBoundary_of_succ waits, UplinkQueue.close_of_some isOpen]
  · rw [State.assemblerBoundary_of_succ waits, UplinkQueue.close_of_none none]

/-! ## Beacons (R36, R51) -/

/-- The port ready in the words of the statements (R49). -/
theorem State.walks.ready {s : State} (h : s.walks) : s.port.ready = true := by
  obtain ⟨idle, noGap, -⟩ := h
  simp [FieldPort.ready, idle, noGap]

/-- Settles O12: the frame's layout, the beacon begun, and its end for each state of the engine. -/
theorem beaconIsSent : Obligations.BeaconIsSent := by
  unfold Obligations.BeaconIsSent
  refine ⟨?_, fun s cycle live walks beacon => ?_, fun s frame live sending isBeacon => ?_⟩
  · rintro addr ctrl payload _ rfl
    rfl
  · simp only [exec, execBeaconBegin, event_of_live live, beacon]
    rw [if_pos ⟨walks.ready, walks.2.2⟩]
    rfl
  · have sent : exec .beaconSent s = .next (s.settle s.portToIdle.stopIfStopping) := by
      simp only [exec, execBeaconSent, event_of_live live, sending, if_pos isBeacon]
    rw [sent]
    refine ⟨fun going => ?_, fun stopping => ?_⟩
    · rw [State.stopIfStopping_of_going (s := s.portToIdle) going]
      rfl
    · rw [State.stopIfStopping_of_stopping (s := s.portToIdle) stopping]
      rfl

end Sys2Proof.Machine

/-! SUPPORT. The events of the field line: the slot walk and the forming of a POLL, the start delimiter, the end of a reception
with its judgement, and the calibration window, with the statements on them (R37 to R39, R50, R52 to R55, R57 to R60, R154). -/

namespace Sys2Proof.Machine

/-! ## The slot walk (R37, R38) -/

theorem mem_take_iff {active : List (Fin 32)} {place : Nat} {node : Fin 32} :
    node ∈ active.take place ↔ ∃ m, m < place ∧ active[m]? = some node := by
  simp only [List.mem_iff_getElem?, List.getElem?_take]
  refine exists_congr fun m => ?_
  by_cases before : m < place <;> simp [before]

theorem State.skipsSlot_of_free {s : State} {node : Fin 32} (free : s.nodes[node] = none) (place : Nat) :
    s.skipsSlot place node = true := by
  simp only [State.skipsSlot, free]

/-- An in-use entry's slot is skipped when the node is DOWN and the POLL would be no probe (R38). -/
theorem State.skipsSlot_iff_of_inUse {s : State} {node : Fin 32} {e : NodeEntry} (entry : s.nodes[node] = some e)
    (place : Nat) : s.skipsSlot place node = true ↔
      e.state = .down ∧ ¬ (e.probeCountdown = 0 ∧ node ∉ s.sched.active.take place) := by
  simp [State.skipsSlot, entry, imp_iff_not_or]

theorem State.skipsSlot_iff {s : State} {place : Nat} {node : Fin 32} : s.skipsSlot place node = true ↔
    s.nodes[node] = none ∨ ∃ e, s.nodes[node] = some e ∧ e.state = .down ∧
      ¬ (e.probeCountdown = 0 ∧ ∀ m, m < place → s.sched.active[m]? ≠ some node) := by
  have earlier : node ∉ s.sched.active.take place ↔ ∀ m, m < place → s.sched.active[m]? ≠ some node := by
    rw [mem_take_iff]
    simp
  cases entry : s.nodes[node] with
  | none => simp [State.skipsSlot_of_free entry]
  | some e =>
    rw [State.skipsSlot_iff_of_inUse entry, earlier]
    simp

/-- The walk over the active schedule from a place on. -/
def State.examined (s : State) (place : Nat) : Nat × Option (Fin 32 × Bool) :=
  examineSlots s.nodes s.sched.active place (s.sched.active.drop place)

section Walk
variable {s : State} {place : Nat} {node : Fin 32} (slot : s.sched.active[place]? = some node)

theorem State.examined_of_end (atEnd : s.sched.active.length ≤ place) : s.examined place = (place, none) := by
  rw [State.examined, List.drop_eq_nil_iff.2 atEnd, examineSlots]

include slot

theorem State.drop_of_slot : s.sched.active.drop place = node :: s.sched.active.drop (place + 1) := by
  obtain ⟨within, rfl⟩ := List.getElem?_eq_some_iff.1 slot
  exact List.drop_eq_getElem_cons within

theorem State.examined_of_skipped (skipped : s.skipsSlot place node = true) :
    s.examined place = s.examined (place + 1) := by
  rw [State.examined, State.drop_of_slot slot, examineSlots]
  cases entry : s.nodes[node] with
  | none => rfl
  | some e =>
    obtain ⟨down, noProbe⟩ := (State.skipsSlot_iff_of_inUse entry place).1 skipped
    dsimp only
    rw [if_pos down, if_neg noProbe]
    rfl

theorem State.examined_of_taken {e : NodeEntry} (entry : s.nodes[node] = some e) (taken : s.skipsSlot place node = false) :
    s.examined place = (place, some (node, e.state == .down)) := by
  have polls := mt (State.skipsSlot_iff_of_inUse entry place).2 (by rw [taken]; decide)
  rw [State.examined, State.drop_of_slot slot, examineSlots, entry]
  dsimp only
  by_cases down : e.state = .down
  · rw [if_pos down, if_pos (Decidable.not_not.1 fun noProbe => polls ⟨down, noProbe⟩), down]
    rfl
  · rw [if_neg down, beq_false_of_ne down]

end Walk

/-- The walk passes over slots that are skipped. -/
theorem State.examined_of_allSkipped {s : State} {from' place : Nat} (before : from' ≤ place)
    (within : place ≤ s.sched.active.length)
    (skipped : ∀ (m : Nat) (n : Fin 32), from' ≤ m → m < place → s.sched.active[m]? = some n → s.skipsSlot m n = true) :
    s.examined from' = s.examined place := by
  induction place, before using Nat.le_induction with
  | base => rfl
  | succ place before ih =>
    have slot : s.sched.active[place]? = some s.sched.active[place] := List.getElem?_eq_getElem within
    rw [ih (Nat.le_of_succ_le within) fun m n low high => skipped m n low (Nat.lt_succ_of_lt high),
      State.examined_of_skipped slot (skipped place _ before (Nat.lt_succ_self place) slot)]

/-- SLOT_EXAMINE when the scheduler may act and no beacon waits. -/
theorem exec_slotExamine_of_end {s : State} (live : s.live) (walks : s.walks) (noBeacon : s.sched.beacon = none) {place : Nat}
    (walked : s.examined s.sched.position = (place, none)) :
    exec .slotExamine s = .next (s.settle { s with sched := { s.sched with position := place } }) := by
  simp only [exec, execSlotExamine, event_of_live live]
  rw [if_pos ⟨walks.ready, walks.2.2, noBeacon⟩]
  rw [State.examined] at walked
  rw [walked]

theorem exec_slotExamine_of_poll {s : State} (live : s.live) (walks : s.walks) (noBeacon : s.sched.beacon = none)
    {place : Nat} {node : Fin 32} {probe : Bool} {e : NodeEntry} (entry : s.nodes[node] = some e)
    (walked : s.examined s.sched.position = (place, some (node, probe))) : exec .slotExamine s = .next (s.settle
      (({ s with sched := { s.sched with position := place + 1 } } : State).beginPoll node e probe)) := by
  simp only [exec, execSlotExamine, event_of_live live]
  rw [if_pos ⟨walks.ready, walks.2.2, noBeacon⟩]
  rw [State.examined] at walked
  rw [walked]
  simp only [entry]

theorem State.beginPoll_eq {s : State} {i : Fin 32} {e : NodeEntry} (entry : s.nodes[i] = some e) (probe : Bool) :
    s.beginPoll i e probe = { s with
      port := { s.port with
        state := .sending { beacon := false, bytes := e.poll (!s.queue.throttled) }
        exchange := some { node := i, g := !s.queue.throttled, carried := e.attached.isSome, probe := probe }
        fldDe := true }
      nodes := s.nodes.set i (some e.polled) } := by
  unfold State.beginPoll
  rw [State.modifyNode_of_inUse (e := e)]
  exact entry

/-- Settles O13: the walk passes over the skipped slots to the first that is not, or to the end of the list. -/
theorem slotWalkTakesFirstPollingSlot : Obligations.SlotWalkTakesFirstPollingSlot := by
  unfold Obligations.SlotWalkTakesFirstPollingSlot
  refine ⟨fun s place node => State.skipsSlot_iff, fun s live walks noBeacon =>
    ⟨fun place node before slot taken skipped => ?poll, fun within skipped => ?done⟩⟩
  case poll =>
    have within : place ≤ s.sched.active.length := (List.getElem?_eq_some_iff.1 slot).1.le
    cases entry : s.nodes[node] with
    | none =>
      rw [State.skipsSlot_of_free entry] at taken
      cases taken
    | some e =>
      refine ⟨e, rfl, ?_⟩
      rw [exec_slotExamine_of_poll live walks noBeacon entry ((State.examined_of_allSkipped before within skipped).trans
        (State.examined_of_taken slot entry taken))]
      rw [State.beginPoll_eq (s := { s with sched := { s.sched with position := place + 1 } }) entry]
  case done =>
    exact exec_slotExamine_of_end live walks noBeacon ((State.examined_of_allSkipped within le_rfl
      fun m n low _ slot => skipped m n low slot).trans (State.examined_of_end le_rfl))

/-! ## The forming of a POLL (R4, R39, R154) -/

theorem NodeEntry.attached_of_held {e : NodeEntry} (held : e.held = true) : e.attached = none := if_pos held

theorem NodeEntry.attached_of_free {e : NodeEntry} (free : e.held = false) : e.attached = e.slot :=
  if_neg (Bool.eq_false_iff.1 free)

/-- A payload that is carried is the slot's. -/
theorem NodeEntry.slot_of_attached {e : NodeEntry} {p : DownPayload} (attached : e.attached = some p) : e.slot = some p := by
  cases held : e.held with
  | true =>
    rw [NodeEntry.attached_of_held held] at attached
    cases attached
  | false => rwa [NodeEntry.attached_of_free held] at attached

theorem NodeEntry.polled_of_none {e : NodeEntry} (none : e.attached = none) :
    e.polled = { e with counters := { e.counters with polls := bump e.counters.polls } } := by
  simp [NodeEntry.polled, NodeEntry.tally, none]

theorem NodeEntry.polled_of_some {e : NodeEntry} {p : DownPayload} (attached : e.attached = some p) :
    e.polled = { e with
      slot := some { p with attempts := p.attempts + 1, lastAnswered := false }
      counters := { e.counters with polls := bump e.counters.polls } } := by
  simp [NodeEntry.polled, NodeEntry.tally, attached, NodeEntry.slot_of_attached attached]

/-- The CTRL byte of a POLL: S, A, G and the kind (Table 11-7). -/
def pollCtrl (s a g : Bool) : Byte := nat8 (128 * s.toNat + 64 * a.toNat + 32 * g.toNat + 2)

theorem pollCtrl_fields (s a g : Bool) : (pollCtrl s a g).getLsbD 7 = s ∧ (pollCtrl s a g).getLsbD 6 = a ∧
    (pollCtrl s a g).getLsbD 5 = g ∧ (pollCtrl s a g).extractLsb' 0 5 = 2#5 := by
  revert s a g
  decide

/-- Settles O14: the payload carried or not, the frame's bytes, and the entry after the POLL has begun. -/
theorem pollCarriesEntryFields : Obligations.PollCarriesEntryFields := by
  unfold Obligations.PollCarriesEntryFields
  intro e g
  refine ⟨fun none => ?_, fun free p slot => (NodeEntry.attached_of_free free).trans slot,
    ⟨pollCtrl e.sendTx e.expectRx g, _, rfl, rfl, pollCtrl_fields e.sendTx e.expectRx g⟩, NodeEntry.polled_of_none,
    fun p => NodeEntry.polled_of_some⟩
  cases held : e.held with
  | true => exact NodeEntry.attached_of_held held
  | false => exact (NodeEntry.attached_of_free held).trans (none.resolve_left (by rw [held]; decide))

/-! ## The start delimiter (R48, R52) -/

theorem classify_of_violation {threshold fieldDivide len : Nat} (long : threshold + fieldDivide / 2 ≤ len) :
    classify threshold fieldDivide len = .violation := by
  rw [classify, if_neg (by omega), if_neg (by omega)]

theorem classify_of_shorter {threshold fieldDivide len : Nat} (short : len < threshold + fieldDivide / 2) :
    classify threshold fieldDivide len ≠ .violation := by
  unfold classify
  split
  · decide
  · decide

theorem not_silent {fieldDivide len : Nat} (short : len < 3 * fieldDivide) : ¬ silent fieldDivide len = true := by
  simpa [silent] using short

section Delimiter
variable {threshold fieldDivide : Nat} {a : Spacing} (rest : List Spacing)

/-- A violation-class spacing completes a start delimiter, or is its first (R48). -/
theorem findDelimiter_of_violation (long : threshold + fieldDivide / 2 ≤ a.len) (short : a.len < 3 * fieldDivide) (n : Nat) :
    findDelimiter threshold fieldDivide n (a :: rest) =
      if 1 ≤ n then .inr rest else findDelimiter threshold fieldDivide (n + 1) rest := by
  rw [findDelimiter, if_neg (not_silent short), classify_of_violation long]

/-- Another spacing and silence let the count begin again (R48). -/
theorem findDelimiter_of_other (other : a.len < threshold + fieldDivide / 2 ∨ 3 * fieldDivide ≤ a.len) (n : Nat) :
    findDelimiter threshold fieldDivide n (a :: rest) = findDelimiter threshold fieldDivide 0 rest := by
  rw [findDelimiter]
  split
  · rfl
  next heard =>
    obtain short | long := other
    · have shorter := classify_of_shorter short
      cases eq : classify threshold fieldDivide a.len with
      | violation => exact absurd eq shorter
      | half | full => rfl
    · exact absurd (by simpa [silent] using long) heard

end Delimiter

section Awaiting
variable {s : State} (live : s.live) {n : Nat} (awaiting : s.port.state = .awaiting n) {sps : List Spacing}
include live awaiting

theorem exec_startDelimiter_of_inl {m : Nat}
    (found : findDelimiter s.cal.thresholdInUse s.timer.timing.fieldDivide n sps = .inl m) :
    exec (.startDelimiter sps) s = .next { s with port := { s.port with state := .awaiting m } } := by
  rw [exec, execStartDelimiter, outsideReset_of_live live]
  simp only [State.listen, awaiting, State.await, found]

/-- A start delimiter with no spacing after it: the port waits for the first bit (R52). -/
theorem exec_startDelimiter_of_inr
    (found : findDelimiter s.cal.thresholdInUse s.timer.timing.fieldDivide n sps = .inr []) :
    exec (.startDelimiter sps) s =
      .next { s with port := { s.port with state := .receiving Reception.start, replyTimer := none } } := by
  rw [exec, execStartDelimiter, outsideReset_of_live live]
  simp only [State.listen, awaiting, State.await, found]
  rfl

end Awaiting

/-- Settles O15: the two events of the port's timers, and the spacings heard in AWAITING. -/
theorem pollSentAwaitsAStartDelimiter : Obligations.PollSentAwaitsAStartDelimiter := by
  unfold Obligations.PollSentAwaitsAStartDelimiter
  refine ⟨⟨fun s frame live sending poll => ?_, fun s live done => ?_⟩, ?delimiter⟩
  · simp only [exec, execPollSent, event_of_live live, sending, poll, Bool.false_eq_true, if_false]
  · rw [exec, execTurnGapEnd, event_of_live live, if_pos done]
  case delimiter =>
    rintro s live _ rfl
    refine ⟨fun a b awaiting longA shortA longB shortB => ?_, fun n a awaiting long short => ⟨?_, fun second => ?_⟩,
      fun n a awaiting other => ?_, fun n awaiting => ?_⟩
    · refine exec_startDelimiter_of_inr live awaiting ?_
      rw [findDelimiter_of_violation [b] longA shortA, if_neg (by decide), findDelimiter_of_violation [] longB shortB,
        if_pos (by decide)]
    · rintro rfl
      refine exec_startDelimiter_of_inl live awaiting ?_
      rw [findDelimiter_of_violation [] long short, if_neg (by decide), findDelimiter]
    · refine exec_startDelimiter_of_inr live awaiting ?_
      rw [findDelimiter_of_violation [] long short, if_pos second]
    · refine exec_startDelimiter_of_inl live awaiting ?_
      rw [findDelimiter_of_other [] other, findDelimiter]
    · rw [exec, execLineSilence, outsideReset_of_live live]
      simp only [State.listen, awaiting, State.await, findDelimiter, State.silence]

/-! ## The end of a reception (R53 to R55) -/

@[simp] theorem State.measure_all_nodes (s : State) (lens : List Nat) :
    (lens.foldl State.measure s).nodes = s.nodes := by
  induction lens generalizing s with
  | nil => rfl
  | cons len lens ih => rw [List.foldl_cons, ih, State.measure_nodes]

section Judged
variable {s : State} {x : Exchange} {e : NodeEntry} (exchange : s.port.exchange = some x)

theorem State.fail_of_exchange (how : Failure) (exchange : s.port.exchange = some x) :
    s.fail how = (s.failedExchange x how).endExchange x := by
  simp only [State.fail, exchange]

variable (entry : s.nodes[x.node] = some e)
include exchange entry

theorem State.judge_of_valid {bytes : List Byte} {r : NodeReply} (valid : judgeFrame e.address bytes = some r) :
    s.judge bytes = (s.validReply x r).endExchange x := by
  simp only [State.judge, exchange, entry, valid]

theorem State.judge_of_spoiled {bytes : List Byte} (spoiled : judgeFrame e.address bytes = none) :
    s.judge bytes = (s.failedExchange x .spoiled).endExchange x := by
  simp only [State.judge, exchange, entry, spoiled]

end Judged

/-- Spacings heard in RECEIVING: all those measured go to the calibration window before the reception's standing is taken
(R53, R58, log entry 17). -/
theorem State.listen_of_receiving {s : State} {rx : Reception} (receiving : s.port.state = .receiving rx)
    {sps : List Spacing} {h : Heard} {m : State}
    (heard : h = hearReply s.cal.thresholdInUse s.timer.timing.fieldDivide rx sps)
    (measured : m = h.measured.foldl State.measure s) : s.listen sps = m.conclude h.result := by
  subst heard measured
  simp only [State.listen, receiving, State.hear]

section Heard
variable {s m : State} {x : Exchange} {e : NodeEntry} {h : Heard} (measured : m = h.measured.foldl State.measure s)
  (exchange : s.port.exchange = some x) (entry : s.nodes[x.node] = some e)
include measured exchange

theorem State.conclude_of_spoiled (spoiled : h.result = .spoiled) :
    m.conclude h.result = m.settle ((m.failedExchange x .spoiled).endExchange x) := by
  have flight : m.port.exchange = some x := by rw [measured, State.measure_all_port, exchange]
  rw [spoiled, State.conclude, State.fail_of_exchange .spoiled flight]

include entry

theorem State.conclude_of_valid {bytes : List Byte} {r : NodeReply} (complete : h.result = .complete bytes)
    (valid : judgeFrame e.address bytes = some r) :
    m.conclude h.result = m.settle ((m.validReply x r).endExchange x) := by
  have flight : m.port.exchange = some x := by rw [measured, State.measure_all_port, exchange]
  have held : m.nodes[x.node] = some e := by rw [measured, State.measure_all_nodes, entry]
  rw [complete, State.conclude, State.judge_of_valid flight held valid]

theorem State.conclude_of_invalid {bytes : List Byte} (complete : h.result = .complete bytes)
    (invalid : judgeFrame e.address bytes = none) :
    m.conclude h.result = m.settle ((m.failedExchange x .spoiled).endExchange x) := by
  have flight : m.port.exchange = some x := by rw [measured, State.measure_all_port, exchange]
  have held : m.nodes[x.node] = some e := by rw [measured, State.measure_all_nodes, entry]
  rw [complete, State.conclude, State.judge_of_spoiled flight held invalid]

end Heard

/-- Silence with its exchange still in reception spoils the reply, as one event with what was heard before it (R53). -/
theorem State.silence_of_receiving {s : State} {rx : Reception} {x : Exchange} (receiving : s.port.state = .receiving rx)
    (exchange : s.port.exchange = some x) :
    s.silence = s.settle ((s.failedExchange x .spoiled).endExchange x) := by
  simp only [State.silence, receiving, State.fail_of_exchange .spoiled exchange]

/-- Settles O16: the timeout, and a reception in each standing that its spacings leave. -/
theorem timeoutOrReceptionEndsExchange : Obligations.TimeoutOrReceptionEndsExchange := by
  unfold Obligations.TimeoutOrReceptionEndsExchange
  refine ⟨fun s n x live awaiting done exchange => ?timeout, ?reception⟩
  case timeout =>
    simp only [exec, execReplyTimeout, event_of_live live, awaiting, if_pos done, State.fail_of_exchange .timeout exchange]
  case reception =>
    intro s rx x e sps h m live receiving exchange entry heard measured
    have listened : outsideReset s (fun s => s.listen sps) = .next (m.conclude h.result) := by
      rw [outsideReset_of_live live, State.listen_of_receiving receiving heard measured]
    refine ⟨fun bytes r complete valid => ?_, fun bytes complete invalid => ?_, fun spoiled => ?_, fun rx' more => ?_⟩
    · rw [← State.conclude_of_valid measured exchange entry complete valid]
      exact listened
    · rw [← State.conclude_of_invalid measured exchange entry complete invalid]
      exact listened
    · rw [← State.conclude_of_spoiled measured exchange spoiled]
      exact listened
    · have flight : m.port.exchange = some x := by rw [measured, State.measure_all_port, exchange]
      rw [exec, execLineSilence, outsideReset_of_live live, State.listen_of_receiving receiving heard measured, more,
        State.conclude, State.silence_of_receiving (rx := rx') rfl]
      · rfl
      · exact flight

/-! ## The judgement of a complete frame (R54, R181) -/

theorem word16_toNat (hi lo : Byte) : (word16 hi lo).toNat = 256 * hi.toNat + lo.toNat := by
  have low := lo.isLt
  rw [show (word16 hi lo).toNat = (hi ++ lo : BitVec (8 + 8)).toNat from rfl, BitVec.toNat_append, Nat.shiftLeft_eq,
    Nat.mul_comm, ← Nat.two_pow_add_eq_or_of_lt low]

theorem crcBit_eq (reg : Word16) (b : Bool) :
    crcBit reg b = if reg.msb = b then reg <<< 1 else (reg <<< 1) ^^^ 0x1021 := by
  unfold crcBit
  cases reg.msb <;> cases b <;> rfl

theorem crc16_append (bytes : List Byte) (b : Byte) :
    crc16 (bytes ++ [b]) = (byteBits b).foldl crcBit (crc16 bytes) := by
  rw [crc16, List.foldl_append]
  rfl

theorem be16_eq_iff {w : Word16} {hi lo : Byte} : [hi, lo] = be16 w ↔ word16 hi lo = w := by
  constructor
  · intro eq
    rw [be16, List.cons.injEq, List.cons.injEq] at eq
    rw [eq.1, eq.2.1, word16_bytes]
  · rintro rfl
    exact (be16_word16 hi lo).symm

section Judge
variable {address addr ctrl l1 l0 c1 c0 : Byte} {payload : List Byte} (length : payload.length = (word16 l1 l0).toNat)

/-- The CRC and the ADDR of a complete frame are right (R54). -/
def frameGood (address addr ctrl l1 l0 c1 c0 : Byte) (payload : List Byte) : Prop :=
  word16 c1 c0 = crc16 (addr :: ctrl :: l1 :: l0 :: payload) ∧ addr.extractLsb' 0 7 = address.extractLsb' 0 7

theorem frameGood_iff : frameGood address addr ctrl l1 l0 c1 c0 payload ↔
    ([c1, c0] == be16 (crc16 (addr :: ctrl :: l1 :: l0 :: payload)) && addr.setWidth 7 == address.setWidth 7) = true := by
  rw [Bool.and_eq_true, beq_iff_eq, beq_iff_eq, be16_eq_iff, BitVec.setWidth_eq_extractLsb' (by decide),
    BitVec.setWidth_eq_extractLsb' (by decide)]
  rfl

include length

theorem judgeFrame_of_noKind (noKind : replyKind ctrl payload = none) :
    judgeFrame address (addr :: ctrl :: l1 :: l0 :: payload ++ [c1, c0]) = none := by
  simp only [judgeFrame, List.cons_append, List.take_left' length, noKind]

theorem judgeFrame_of_good {kind : ReplyKind} (named : replyKind ctrl payload = some kind)
    (good : frameGood address addr ctrl l1 l0 c1 c0 payload) :
    judgeFrame address (addr :: ctrl :: l1 :: l0 :: payload ++ [c1, c0]) =
      some { kind := kind, f := ctrl.getLsbD 5, a := ctrl.getLsbD 6 } := by
  simp only [judgeFrame, List.cons_append, List.take_left' length, List.drop_left' length, named,
    if_pos (frameGood_iff.1 good)]

theorem judgeFrame_of_bad (bad : ¬ frameGood address addr ctrl l1 l0 c1 c0 payload) :
    judgeFrame address (addr :: ctrl :: l1 :: l0 :: payload ++ [c1, c0]) = none := by
  cases named : replyKind ctrl payload with
  | none => exact judgeFrame_of_noKind length named
  | some kind =>
    simp only [judgeFrame, List.cons_append, List.take_left' length, List.drop_left' length, named,
      if_neg (mt frameGood_iff.2 bad)]

end Judge

section Kind
variable {ctrl : Byte} (payload : List Byte)

theorem replyKind_of_data (data : ctrl.extractLsb' 0 3 = 3#3) :
    replyKind ctrl payload = some (.data (ctrl.getLsbD 7) payload) := by
  simp only [replyKind, data, BitVec.toNat_ofNat]

theorem replyKind_of_idle (idle : ctrl.extractLsb' 0 3 = 4#3) : replyKind ctrl payload = some .idle := by
  simp only [replyKind, idle, BitVec.toNat_ofNat]

theorem replyKind_of_hold (hold : ctrl.extractLsb' 0 3 = 5#3) : replyKind ctrl payload = some .hold := by
  simp only [replyKind, hold, BitVec.toNat_ofNat]

theorem replyKind_of_other (notData : ctrl.extractLsb' 0 3 ≠ 3#3) (notIdle : ctrl.extractLsb' 0 3 ≠ 4#3)
    (notHold : ctrl.extractLsb' 0 3 ≠ 5#3) : replyKind ctrl payload = none := by
  unfold replyKind
  split
  next three => exact absurd (BitVec.eq_of_toNat_eq three) notData
  next four => exact absurd (BitVec.eq_of_toNat_eq four) notIdle
  next five => exact absurd (BitVec.eq_of_toNat_eq five) notHold
  · rfl

end Kind

/-- Settles O17: the two-byte field, the CRC's recursion, and the judgement for each kind of a good frame and a bad one. -/
theorem completeFrameIsJudged : Obligations.CompleteFrameIsJudged := by
  unfold Obligations.CompleteFrameIsJudged
  refine ⟨word16_toNat, rfl, fun bytes b => ?_, ?judged⟩
  · rw [crc16_append, byteBits_eq]
    exact congrArg (fun f => List.foldl f (crc16 bytes) _) (funext fun reg => funext fun bit => crcBit_eq reg bit)
  case judged =>
    rintro address addr ctrl l1 l0 c1 c0 payload length good good_iff reply reply_eq _ rfl
    simp only [reply_eq]
    refine ⟨fun bad => ?_, fun ok data => ?_, fun ok idle => ?_, fun ok hold => ?_, fun ok notData notIdle notHold => ?_⟩
    · exact judgeFrame_of_bad length fun ok => by rw [good_iff.2 ok] at bad; cases bad
    · exact judgeFrame_of_good length (replyKind_of_data payload data) (good_iff.1 ok)
    · exact judgeFrame_of_good length (replyKind_of_idle payload idle) (good_iff.1 ok)
    · exact judgeFrame_of_good length (replyKind_of_hold payload hold) (good_iff.1 ok)
    · exact judgeFrame_of_noKind length (replyKind_of_other payload notData notIdle notHold)

/-! ## The calibration window (R57 to R60) -/

theorem bumpTo_of_lt {top n : Nat} (below : n < top) : bumpTo top n = n + 1 := if_pos below

theorem bumpTo_of_le {top n : Nat} (atEnd : top ≤ n) : bumpTo top n = n := if_neg (Nat.not_lt.2 atEnd)

/-- An empty bin with occupied bins on both sides. -/
def gapAt (bins : BitVec 64) (b : Nat) : Prop :=
  bins.getLsbD b = false ∧ (∃ c, c < b ∧ bins.getLsbD c = true) ∧ ∃ c, b < c ∧ c < 64 ∧ bins.getLsbD c = true

theorem gapAt_iff {bins : BitVec 64} {b : Nat} : gapAt bins b ↔
    (!bins.getLsbD b && (List.range b).any (fun c => bins.getLsbD c) &&
      (List.range 64).any fun c => b < c && bins.getLsbD c) = true := by
  simp only [gapAt, Bool.and_eq_true, Bool.not_eq_true', List.any_eq_true, List.mem_range, decide_eq_true_eq, and_assoc]
  refine and_congr_right fun _ => and_congr_right fun _ => exists_congr fun c => ?_
  tauto

/-- The search finds the lowest gap (R59). -/
theorem lowestGap_of_lowest {bins : BitVec 64} {b : Nat} (within : b < 64) (gap : gapAt bins b)
    (lowest : ∀ b', b' < b → ¬ gapAt bins b') : lowestGap bins = some b := by
  rw [lowestGap, List.find?_range_eq_some]
  refine ⟨gapAt_iff.1 gap, List.mem_range.2 within, fun b' below => ?_⟩
  rw [Bool.not_eq_true', Bool.eq_false_iff]
  exact mt gapAt_iff.2 (lowest b' below)

theorem gapAt_of_lowestGap {bins : BitVec 64} {b : Nat} (found : lowestGap bins = some b) : b < 64 ∧ gapAt bins b := by
  have gap := List.find?_some found
  exact ⟨List.mem_range.1 (List.mem_of_find?_eq_some found), gapAt_iff.2 gap⟩

/-- The window with a spacing added (R58). -/
def Calibrator.marked (c : Calibrator) (len : Nat) : Calibrator :=
  { c with
    bins := if 1 ≤ len ∧ len ≤ 63 then c.bins ||| BitVec.ofNat 64 (2 ^ len) else c.bins
    longCount := if 64 ≤ len then c.longCount + 1 else c.longCount
    spacingCount := c.spacingCount + 1 }

section Window
variable {c : Calibrator} {fieldDivide len : Nat}

theorem Calibrator.measure_of_more (more : c.spacingCount < 255) : c.measure fieldDivide len = (c.marked len, false) :=
  if_neg (show ¬ 256 ≤ c.spacingCount + 1 by omega)

theorem Calibrator.measure_of_last (last : c.spacingCount = 255) :
    c.measure fieldDivide len = (c.marked len).complete fieldDivide :=
  if_pos (show 256 ≤ c.spacingCount + 1 by omega)

/-- A window in which a gap at or below FieldDivide is the lowest succeeds (R59). -/
theorem Calibrator.complete_of_gap {b : Nat} (found : lowestGap c.bins = some b) (within : b ≤ fieldDivide) :
    c.complete fieldDivide = ((c.succeed b).newWindow, false) := by
  simp only [Calibrator.complete, found, if_pos within]

/-- A window without a gap at or below FieldDivide fails (R59). -/
theorem Calibrator.complete_of_noGap (noGap : ∀ b, b ≤ fieldDivide → b < 64 → ¬ gapAt c.bins b) :
    c.complete fieldDivide = ((c.fail fieldDivide).newWindow, true) := by
  cases found : lowestGap c.bins with
  | none => simp only [Calibrator.complete, found]
  | some b =>
    obtain ⟨bound, gap⟩ := gapAt_of_lowestGap found
    have above : ¬ b ≤ fieldDivide := fun within => noGap b within bound gap
    simp only [Calibrator.complete, found, if_neg above]

theorem Calibrator.fail_eq (c : Calibrator) (fieldDivide : Nat) : c.fail fieldDivide = { c with
    line := if 2 ≤ bumpTo 255 c.consecutiveFails then .seeking else c.line
    nextThreshold := if 2 ≤ bumpTo 255 c.consecutiveFails then 3 * fieldDivide / 4 else c.nextThreshold
    lastFail := true, fails := bump c.fails, consecutiveFails := bumpTo 255 c.consecutiveFails } := by
  unfold Calibrator.fail
  dsimp only
  split <;> rfl

variable {s : State} {cal : Calibrator}

theorem State.measure_of_kept (kept : s.cal.measure s.timer.timing.fieldDivide len = (cal, false)) :
    s.measure len = { s with cal := cal } := by
  simp only [State.measure, kept]

theorem State.measure_of_failed (failed : s.cal.measure s.timer.timing.fieldDivide len = (cal, true)) :
    s.measure len = s.settle (({ s with cal := cal } : State).raise .line) := by
  simp only [State.measure, failed]

end Window

/-- Settles O18: a spacing before the window's last, the last with a gap found and without one, and the reception that the
spacings belong to. -/
theorem calibrationWindowIsSearched : Obligations.CalibrationWindowIsSearched := by
  unfold Obligations.CalibrationWindowIsSearched
  refine ⟨fun top n => ⟨bumpTo_of_lt, bumpTo_of_le⟩, ?window, ?reception⟩
  case window =>
    rintro s len _ _ rfl rfl
    refine ⟨fun more => State.measure_of_kept (Calibrator.measure_of_more more), fun last =>
      ⟨fun b bound empty below above lowest within => ?gap, fun noGap => ⟨_, rfl, ?fail⟩⟩⟩
    case gap =>
      have found : lowestGap (s.cal.marked len).bins = some b := by
        refine lowestGap_of_lowest bound ⟨empty, below, above⟩ fun b' before gap => ?_
        obtain ⟨empty', ⟨c, less, occupied⟩, -⟩ := gap
        obtain occupied' | none := lowest b' before
        · exact absurd (occupied'.symm.trans empty') (by decide)
        · exact absurd (occupied.symm.trans (none c less)) (by decide)
      exact State.measure_of_kept ((Calibrator.measure_of_last last).trans (Calibrator.complete_of_gap found within))
    case fail =>
      have failed := Calibrator.complete_of_noGap (c := s.cal.marked len) (fieldDivide := s.timer.timing.fieldDivide)
        fun b within bound ⟨empty, below, above⟩ => noGap b within bound empty below above
      rw [Calibrator.fail_eq] at failed
      exact State.measure_of_failed ((Calibrator.measure_of_last last).trans failed)
  case reception =>
    intro s rx x e sps h m live receiving exchange entry heard measured
    have listened : exec (.calibrationWindowComplete sps) s = .next (m.conclude h.result) := by
      rw [exec, execCalibrationWindowComplete, outsideReset_of_live live,
        State.listen_of_receiving receiving heard measured]
    rw [listened]
    refine ⟨fun rx' more => ?_, fun bytes r complete valid => ?_, fun ends => ?_⟩
    · rw [more, State.conclude]
    · rw [State.conclude_of_valid measured exchange entry complete valid]
    · obtain spoiled | ⟨bytes, complete, invalid⟩ := ends
      · rw [State.conclude_of_spoiled measured exchange spoiled]
      · rw [State.conclude_of_invalid measured exchange entry complete invalid]

end Sys2Proof.Machine

/-! SUPPORT. The flags and the alert, and the host's commands that read a block of the part or return it to its start: the alert
test in one piece, the bytes of marks, and the statements on a raise, STATUS, ALERT MASK, FLUSH, IDENTIFY, LINE READ, NODE READ
and the queue's commands (R20, R62, R141, R142, R170 to R176, R178). -/

namespace Sys2Proof.Machine

/-! ## The alert test (R171, R172) -/

section Alert
variable {u : StatusUnit} (cycle : Word16)

/-- Armed with a set flag masked, the unit makes an ALERT frame and is disarmed. -/
theorem StatusUnit.drive_alertTest_of_alert (armed : u.armed = true) (masked : u.flags &&& u.mask ≠ 0) :
    u.drive.alertTest cycle = { u with
      alertN := true, armed := false
      alertSlot := some { flags := u.flags, mask := u.mask, cycle := cycle } } := by
  have set : u.masked = true := bne_iff_ne.2 masked
  have made : u.drive.alertTest cycle = { u.drive with
      alertSlot := some { flags := u.flags, mask := u.mask, cycle := cycle }, armed := false } :=
    if_pos (Bool.and_eq_true_iff.2 ⟨armed, set⟩)
  rw [made, StatusUnit.drive, set]

/-- Otherwise ALERT_N follows the flags and the mask, and nothing else changes. -/
theorem StatusUnit.drive_alertTest_of_quiet (quiet : u.armed = false ∨ u.flags &&& u.mask = 0) :
    u.drive.alertTest cycle = { u with alertN := u.flags &&& u.mask != 0 } := by
  refine if_neg fun alert => ?_
  obtain ⟨armed, set⟩ := Bool.and_eq_true_iff.1 alert
  obtain disarmed | clear := quiet
  · exact absurd (armed.symm.trans disarmed) (by decide)
  · exact bne_iff_ne.1 set clear

theorem StatusUnit.drive_alertTest_of_clear (clear : u.flags &&& u.mask = 0) :
    u.drive.alertTest cycle = { u with alertN := false } := by
  rw [StatusUnit.drive_alertTest_of_quiet cycle (.inr clear), clear]
  rfl

end Alert

/-- Settles O35: the three standings of the alert after a flag is set. -/
theorem raiseDrivesAlert : Obligations.RaiseDrivesAlert := by
  unfold Obligations.RaiseDrivesAlert
  refine ⟨⟨rfl, rfl, rfl, rfl, rfl, rfl, rfl, rfl, rfl, rfl⟩, ?_⟩
  rintro s f _ rfl
  refine ⟨fun armed masked => ?_, fun disarmed => ?_, fun clear => ?_⟩
  · exact congrArg (fun u => { s with status := u })
      (StatusUnit.drive_alertTest_of_alert (u := { s.status with flags := s.status.flags ||| f.set }) _ armed masked)
  · exact congrArg (fun u => { s with status := u })
      (StatusUnit.drive_alertTest_of_quiet (u := { s.status with flags := s.status.flags ||| f.set }) _ (.inl disarmed))
  · exact congrArg (fun u => { s with status := u })
      (StatusUnit.drive_alertTest_of_clear (u := { s.status with flags := s.status.flags ||| f.set }) _ clear)

/-! ## Bytes of marks -/

theorem markByte_two (a b : Bool) : markByte [a, b] = nat8 (a.toNat + 2 * b.toNat) := by
  simp [markByte]

theorem markByte_four (a b c d : Bool) :
    markByte [a, b, c, d] = nat8 (a.toNat + 2 * b.toNat + 4 * c.toNat + 8 * d.toNat) := by
  refine congrArg nat8 ?_
  simp only [List.foldr]
  omega

theorem markByte_six (a b c d e f : Bool) : markByte [a, b, c, d, e, f] =
    nat8 (a.toNat + 2 * b.toNat + 4 * c.toNat + 8 * d.toNat + 16 * e.toNat + 32 * f.toNat) := by
  refine congrArg nat8 ?_
  simp only [List.foldr]
  omega

theorem UplinkQueue.marks_eq (q : UplinkQueue) :
    q.marks = nat8 (q.throttled.toNat + 2 * (decide (2048 ≤ (q.frames.map ReportFrame.size).sum)).toNat) :=
  markByte_two q.throttled q.half

/-! ## STATUS and ALERT MASK (R174, R175) -/

/-- STATUS, for the unit that the clearing gives: the results are those before it (R174). -/
theorem exec_status {s : State} (accepts : s.accepts) (ref clearSet : Word16) {u : StatusUnit}
    (eq : s.status.clear (flagSet clearSet) s.timer.cycleNumber = u) : exec (.status ref clearSet) s =
      .next (s.settle (State.replied { s with status := u } 0x02 ref .ok
        (flagBytes s.status.flags ++ [mark s.status.armed] ++ flagBytes s.status.mask ++ [s.timer.engine.code] ++
          be16 s.timer.cycleNumber ++ nat16 s.queue.occupancy ++
          [nat8 (s.queue.throttled.toNat + 2 * (decide (2048 ≤ s.queue.occupancy)).toNat)] ++
          be16 s.sched.overrunCount ++ be16 s.badFrames ++ be16 s.droppedCommands))) := by
  subst eq
  have bytes : s.queue.marks = nat8 (s.queue.throttled.toNat + 2 * (decide (2048 ≤ s.queue.occupancy)).toNat) :=
    s.queue.marks_eq
  rw [← bytes]
  exact command_of_answer accepts 0x02 ref rfl

/-- ALERT MASK, for the unit that the new mask gives. -/
theorem exec_alertMask {s : State} (accepts : s.accepts) (ref given : Word16) {u : StatusUnit}
    (eq : s.status.setMask (flagSet given) s.timer.cycleNumber = u) : exec (.alertMask ref given) s =
      .next (s.settle (State.replied { s with status := u } 0x03 ref .ok
        (flagBytes u.mask ++ flagBytes u.flags ++ [mark u.armed]))) := by
  subst eq
  exact command_of_answer accepts 0x03 ref rfl

/-- Settles O37: the results, and the unit after each command by whether its alert test finds a flag set and masked. -/
theorem statusClearsAndAlertMaskReplaces : Obligations.StatusClearsAndAlertMaskReplaces := by
  unfold Obligations.StatusClearsAndAlertMaskReplaces
  refine ⟨⟨rfl, rfl, rfl⟩, ?status, ?mask⟩
  case status =>
    rintro ref clearSet s _ _ _ accepts rfl rfl rfl
    refine ⟨fun clear => ?_, fun masked => ?_⟩
    · exact exec_status accepts ref clearSet (StatusUnit.drive_alertTest_of_clear _ clear)
    · exact exec_status accepts ref clearSet (StatusUnit.drive_alertTest_of_alert _ rfl masked)
  case mask =>
    rintro ref given s _ accepts rfl
    refine ⟨fun armed masked => ?_, fun quiet => ?_⟩
    · exact exec_alertMask accepts ref given (StatusUnit.drive_alertTest_of_alert _ armed masked)
    · exact exec_alertMask accepts ref given (StatusUnit.drive_alertTest_of_quiet _ quiet)

/-! ## FLUSH (R178) -/

/-- Settles O38: the seven effects, as FLUSH's rule writes them. -/
theorem flushReturnsToStart : Obligations.FlushReturnsToStart := by
  unfold Obligations.FlushReturnsToStart
  intro ref s accepts
  exact command_of_answer accepts 0x04 ref rfl

/-! ## NODE READ (R20) -/

theorem yesNo_of_large {b : Byte} (large : 1 < b.toNat) : yesNo b = none :=
  Option.eq_none_iff_forall_ne_some.2 fun _ named => absurd (yesNo_eq_some_iff.1 named).1 (Nat.not_le.2 large)

theorem yesNo_of_choice {b : Byte} (choice : b = 0 ∨ b = 1) : yesNo b = some (b == 1) :=
  yesNo_eq_some_iff.2 ⟨(Byte.le_one_iff b).2 choice, rfl⟩

theorem nodeRead_of_outOfRange {index clear : Byte} (above : 31 < index.toNat ∨ 1 < clear.toNat) (s : State) :
    nodeRead index clear s = refuse s .range := by
  unfold nodeRead
  split
  · rfl
  next i named =>
    obtain above | above := above
    · rw [nodeIndex_eq_none above] at named
      cases named
    · simp only [yesNo_of_large above]

section NodeRead
variable {s : State} {i : Fin 32} {clear : Byte} (choice : clear = 0 ∨ clear = 1)
include choice

theorem nodeRead_of_free (free : s.nodes[i] = none) : nodeRead (nat8 i) clear s = refuse s .noent := by
  simp only [nodeRead, nodeIndex_nat8, yesNo_of_choice choice, free]

theorem nodeRead_of_inUse {e : NodeEntry} (entry : s.nodes[i] = some e) : nodeRead (nat8 i) clear s =
    { state := (if (clear == 1) = true then s.clearNode i else s).drawIf e.resync.isNone, status := .ok
      results := e.bytes (s.lateTag e) s.unclaimed[i] } := by
  simp only [nodeRead, nodeIndex_nat8, yesNo_of_choice choice, entry]

theorem State.clearNode_drawIf {e : NodeEntry} (entry : s.nodes[i] = some e) (draw : Bool) :
    (if (clear == 1) = true then s.clearNode i else s).drawIf draw = { s with
      nodes := if clear = 1 then s.nodes.set i (some { e with counters := ⟨0, 0, 0, 0, 0, 0, 0⟩ }) else s.nodes
      unclaimed := if clear = 1 then s.unclaimed.set i 0 else s.unclaimed
      freeCount := s.freeCount + draw.toNat } := by
  obtain rfl | rfl := choice
  · cases draw <;> rfl
  · rw [if_pos (by decide), if_pos rfl, if_pos rfl, State.clearNode, State.modifyNode_of_inUse entry]
    cases draw <;> rfl

end NodeRead

theorem slotBytes_of_none {slot : Option DownPayload} (none : slot = none) :
    slotBytes slot = [0, 0, 0, 0] ∧ slotAnswered slot = false := by
  subst none
  exact ⟨rfl, rfl⟩

theorem slotBytes_of_some {slot : Option DownPayload} {p : DownPayload} (held : slot = some p) :
    slotBytes slot = be16 p.tag ++ [nat8 p.payload.length, nat8 p.attempts] ∧ slotAnswered slot = p.lastAnswered := by
  subst held
  exact ⟨rfl, rfl⟩

/-- Settles O43: the checks, and the entry's fields with the clear option and without it. -/
theorem nodeReadAnswersEntry : Obligations.NodeReadAnswersEntry := by
  unfold Obligations.NodeReadAnswersEntry
  refine ⟨⟨rfl, rfl, rfl, rfl⟩, fun ref index clear s accepts refused refused_iff => ?_⟩
  have answer {status : Status} (rule : nodeRead index clear s = refuse s status) : refused status :=
    (refused_iff status).2 (command_of_refuse accepts 0x22 ref rule)
  refine ⟨fun above => answer (nodeRead_of_outOfRange above s), ?_⟩
  rintro i rfl choice
  refine ⟨fun free => answer (nodeRead_of_free choice free), fun e entry => ⟨s.lateTag e, slotBytes e.slot,
    slotAnswered e.slot, e.resync.isNone.toNat, fun tag resync => ?_, fun resync => ?_, slotBytes_of_none,
    fun p => slotBytes_of_some, ?_⟩⟩
  · rw [State.lateTag, resync]
    exact ⟨rfl, rfl⟩
  · rw [resync]
    rfl
  · have rule := nodeRead_of_inUse choice entry
    rw [State.clearNode_drawIf choice entry, NodeEntry.bytes, markByte_six] at rule
    rw [exec, execNodeRead, command_of_answer accepts 0x22 ref rule]
    simp only [NodeCounters.bytes, List.append_assoc]

/-! ## QUEUE MARKS and QUEUE READ (R141, R142) -/

/-- An evaluation touches the Throttled mark only (R139). -/
theorem UplinkQueue.evaluate_eq (q : UplinkQueue) : q.evaluate = { q with throttled := q.evaluate.throttled } := by
  obtain ⟨b, eq⟩ := q.evaluate_spec
  rw [eq]

section Evaluate
variable {q : UplinkQueue}

theorem UplinkQueue.evaluate_of_high (high : q.highMark ≤ q.occupancy) : q.evaluate = { q with throttled := true } :=
  if_pos high

theorem UplinkQueue.evaluate_of_low (notHigh : q.occupancy < q.highMark) (low : q.occupancy ≤ q.lowMark) :
    q.evaluate = { q with throttled := false } := by
  rw [UplinkQueue.evaluate, if_neg (Nat.not_le.2 notHigh), if_pos low]

theorem UplinkQueue.evaluate_of_between (notLow : q.lowMark < q.occupancy) (notHigh : q.occupancy < q.highMark) :
    q.evaluate = q := by
  rw [UplinkQueue.evaluate, if_neg (Nat.not_le.2 notHigh), if_neg (Nat.not_le.2 notLow)]

end Evaluate

theorem queueMarks_of_outOfRange {high low : Word16} (bad : high.toNat ≤ low.toNat ∨ 4096 < high.toNat) (s : State) :
    queueMarks high low s = { state := s, status := .range, results := s.queue.markBytes } := if_pos bad

theorem queueMarks_of_inRange {high low : Word16} (ordered : low.toNat < high.toNat) (within : high.toNat ≤ 4096)
    (s : State) : queueMarks high low s =
      { state := { s with queue := s.queue.setMarks high.toNat low.toNat }, status := .ok
        results := (s.queue.setMarks high.toNat low.toNat).markBytes } :=
  if_neg (by rw [Config.queueBytes]; omega)

theorem queueRead_of_large {clear : Byte} (large : 1 < clear.toNat) (s : State) : queueRead clear s = refuse s .range := by
  simp only [queueRead, yesNo_of_large large]

theorem queueRead_of_choice {clear : Byte} (choice : clear = 0 ∨ clear = 1) (s : State) : queueRead clear s =
    { state := (if (clear == 1) = true then { s with queue := { s.queue with lost := LossCounters.zero } } else s).drawIf
        s.queue.openFrame.isNone
      status := .ok, results := s.queue.bytes s.openEntries } := by
  simp only [queueRead, yesNo_of_choice choice]

theorem State.clearLost_drawIf {clear : Byte} (choice : clear = 0 ∨ clear = 1) (s : State) (draw : Bool) :
    (if (clear == 1) = true then { s with queue := { s.queue with lost := LossCounters.zero } } else s).drawIf draw =
      { s with
        queue := { s.queue with lost := if clear = 1 then LossCounters.zero else s.queue.lost }
        freeCount := s.freeCount + draw.toNat } := by
  obtain rfl | rfl := choice <;> cases draw <;> rfl

/-- Settles O49: the marks refused and set, with the Throttled mark in its three cases, and the queue read. -/
theorem queueMarksAreSetAndQueueIsRead : Obligations.QueueMarksAreSetAndQueueIsRead := by
  unfold Obligations.QueueMarksAreSetAndQueueIsRead
  refine ⟨?marks, ?read⟩
  case marks =>
    rintro ref high low s _ accepts rfl
    refine ⟨fun bad => command_of_answer accepts 0x40 ref (queueMarks_of_outOfRange bad s), fun ordered within =>
      ⟨(s.queue.setMarks high.toNat low.toNat).throttled, fun atHigh => ?_, fun atLow => ?_, fun above below => ?_, ?_⟩⟩
    · exact congrArg UplinkQueue.throttled (UplinkQueue.evaluate_of_high
        (q := { s.queue with highMark := high.toNat, lowMark := low.toNat }) atHigh)
    · exact congrArg UplinkQueue.throttled (UplinkQueue.evaluate_of_low
        (q := { s.queue with highMark := high.toNat, lowMark := low.toNat }) (Nat.lt_of_le_of_lt atLow ordered) atLow)
    · have kept := congrArg UplinkQueue.throttled (UplinkQueue.evaluate_of_between
        (q := { s.queue with highMark := high.toNat, lowMark := low.toNat }) above below)
      exact kept
    · have rule := queueMarks_of_inRange ordered within s
      rw [show s.queue.setMarks high.toNat low.toNat = { s.queue with
        highMark := high.toNat, lowMark := low.toNat, throttled := (s.queue.setMarks high.toNat low.toNat).throttled } from
        UplinkQueue.evaluate_eq _, UplinkQueue.markBytes] at rule
      simp only [nat16_toNat] at rule
      exact command_of_answer accepts 0x40 ref rule
  case read =>
    rintro ref clear s _ accepts rfl
    refine ⟨fun large => command_of_refuse accepts 0x41 ref (queueRead_of_large large s), fun choice =>
      ⟨s.openEntries, s.queue.openFrame.isNone.toNat, fun none => ?_, fun f isOpen => ?_, ?_⟩⟩
    · rw [none]
      rfl
    · rw [State.openEntries, isOpen]
      exact ⟨rfl, rfl⟩
    · have rule := queueRead_of_choice choice s
      rw [State.clearLost_drawIf choice, UplinkQueue.bytes, UplinkQueue.marks_eq] at rule
      rw [exec, execQueueRead, command_of_answer accepts 0x41 ref rule]
      simp only [LossCounters.bytes, List.append_assoc]
      rfl

/-! ## IDENTIFY and LINE READ (R62, R176) -/

theorem be16_eq (w : Word16) : ∃ hi lo : Byte, be16 w = [hi, lo] ∧ w.toNat = 256 * hi.toNat + lo.toNat :=
  ⟨w.extractLsb' 8 8, w.extractLsb' 0 8, rfl, by rw [← word16_toNat, word16_bytes]⟩

theorem word32_halves (w : Word32) : (w.extractLsb' 16 16 ++ w.extractLsb' 0 16 : BitVec 32) = w := by
  have bytes := word32_bytes w
  rwa [word32, word16_bytes, word16_bytes] at bytes

/-- A byte's bits are those it is gathered from (R180). -/
theorem byteBits_byteOfBits (a b c d e f g h : Bool) :
    byteBits (byteOfBits [a, b, c, d, e, f, g, h]) = [a, b, c, d, e, f, g, h] := by
  revert a b c d e f g h
  decide

theorem getLsbD_byteOfBits (bit : Nat → Bool) {j : Nat} (within : j < 8) :
    (byteOfBits ((List.range 8).map bit)).getLsbD (7 - j) = bit j := by
  have bits : byteBits (byteOfBits ((List.range 8).map bit)) = (List.range 8).map bit :=
    byteBits_byteOfBits (bit 0) (bit 1) (bit 2) (bit 3) (bit 4) (bit 5) (bit 6) (bit 7)
  rw [byteBits_eq] at bits
  exact List.map_inj_left.1 bits j (List.mem_range.2 within)

/-- Bin b stands at bit 7 − (b mod 8) of byte b div 8, and the place of bin 0 is clear (R62). -/
theorem binBytes_getLsbD (bins : BitVec 64) {b : Nat} (within : b < 64) :
    ((binBytes bins).getD (b / 8) 0).getLsbD (7 - b % 8) = (b != 0 && bins.getLsbD b) := by
  have byte : (binBytes bins).getD (b / 8) 0 = byteOfBits ((List.range 8).map fun j =>
      8 * (b / 8) + j != 0 && bins.getLsbD (8 * (b / 8) + j)) := by
    rw [binBytes, List.getD_eq_getElem?_getD, List.getElem?_map, List.getElem?_range (by omega)]
    rfl
  rw [byte, getLsbD_byteOfBits _ (Nat.mod_lt b (by decide)), Nat.div_add_mod]

/-- Settles O36: the forms of numbers on the links, and the two commands' results. -/
theorem identifyAndLineReadAnswer : Obligations.IdentifyAndLineReadAnswer := by
  unfold Obligations.IdentifyAndLineReadAnswer
  refine ⟨⟨be16_eq, fun n => ⟨fun small => ?_, BitVec.ofNat 16 n, rfl, fun small => ?_⟩, fun v =>
    ⟨⟨BitVec.ofInt 16 v, rfl, fun low high => ?_⟩, (BitVec.ofInt 32 v).extractLsb' 16 16,
      (BitVec.ofInt 32 v).extractLsb' 0 16, rfl, fun low high => ?_⟩, rfl, rfl⟩, fun s opcode ref status results => rfl,
    fun ref s accepts => ⟨?identify, ?line⟩⟩
  · rw [nat8, BitVec.toNat_ofNat, Nat.mod_eq_of_lt small]
  · rw [BitVec.toNat_ofNat, Nat.mod_eq_of_lt small]
  · rw [BitVec.toInt_ofInt, Int.bmod_eq_of_le (by omega) (by omega)]
  · rw [word32_halves, BitVec.toInt_ofInt, Int.bmod_eq_of_le (by omega) (by omega)]
  case identify =>
    refine ⟨resetCauseCode s.status.resetCause, fun power => ?_, fun pin => ?_, command_of_answer accepts 0x01 ref rfl⟩
    · rw [power]; rfl
    · rw [pin]; rfl
  case line =>
    refine ⟨s.cal.line.code, s.port.state.code, binBytes s.cal.lastBins, fun seeking => ?_, fun locked => ?_, fun idle => ?_,
      fun frame sending => ?_, fun n awaiting => ?_, fun rx receiving => ?_, List.length_map _, ?_, fun b low high => ?_,
      command_of_answer accepts 0x18 ref rfl⟩
    · rw [seeking]; rfl
    · rw [locked]; rfl
    · rw [idle]; rfl
    · rw [sending]; rfl
    · rw [awaiting]; rfl
    · rw [receiving]; rfl
    · exact binBytes_getLsbD s.cal.lastBins (b := 0) (by decide)
    · rw [binBytes_getLsbD s.cal.lastBins (Nat.lt_succ_of_le high), bne_iff_ne.2 (Nat.one_le_iff_ne_zero.1 low),
        Bool.true_and]

end Sys2Proof.Machine

/-! SUPPORT. The uplink queue's addition case by case and the Trunk Transmitter's choice, with the layouts of the trunk frames, and
the statements on both (R132 to R144, R149, R150, R180, R185). -/

namespace Sys2Proof.Machine

/-! ## An entry's size and marks (Tables 8-1, 8-2, 11-10) -/

theorem Entry.urgent_iff (e : Entry) : e.urgent = true ↔ (∃ i d v, e = .trip i d v) ∨ ∃ n, e = .nodeDown n := by
  cases e <;> simp [Entry.urgent]

theorem be16_length (w : Word16) : (be16 w).length = 2 := rfl

theorem int16_length (v : Int) : (int16 v).length = 2 := rfl

theorem int32_length (v : Int) : (int32 v).length = 4 := rfl

theorem entryHead_length (kind marks index : Nat) : (entryHead kind marks index).length = 2 := rfl

/-- An entry's layout takes the bytes that the occupancy counts for it. -/
theorem Entry.bytes_length (e : Entry) : e.bytes.length = e.size := by
  cases e with
  | sample i seq u c long v => cases long <;> rfl
  | _ => rfl

/-! ## An entry added (R133 to R136) -/

theorem UplinkQueue.frames_of_none {q : UplinkQueue} (none : q.openFrame = none) : q.frames = q.closed := by
  rw [UplinkQueue.frames, none, Option.toList_none, List.append_nil]

theorem UplinkQueue.frames_of_some {q : UplinkQueue} {f : ReportFrame} (isOpen : q.openFrame = some f) :
    q.frames = q.closed ++ [f] := by
  rw [UplinkQueue.frames, isOpen, Option.toList_some]

theorem ReportFrame.closesOn_iff {f : ReportFrame} {e : Entry} :
    f.closesOn e = true ↔ 32 ≤ f.entries.length ∨ e.urgent = true := by
  rw [ReportFrame.closesOn, Bool.or_eq_true, decide_eq_true_iff, Config.frameEntries]

/-- The queue's placement is the only one that leaves a frame open below 32 entries without an urgent one, and else closes it
with its flags. -/
theorem UplinkQueue.place_unique {e : Entry} {placed : UplinkQueue → ReportFrame → UplinkQueue}
    (stays : ∀ q f, f.entries.length < 32 → e.urgent = false → placed q f = { q with openFrame := some f })
    (closes : ∀ q f, 32 ≤ f.entries.length ∨ e.urgent = true → placed q f = { q with
      openFrame := none
      closed := q.closed ++ [{ f with flags := { f.flags with
        full := f.flags.full || decide (32 ≤ f.entries.length), urgent := f.flags.urgent || e.urgent } }] })
    (q : UplinkQueue) (f : ReportFrame) : q.place f e = placed q f := by
  unfold UplinkQueue.place
  split
  next closing =>
    rw [closes q f (ReportFrame.closesOn_iff.1 closing)]
    rfl
  next staying =>
    rw [ReportFrame.closesOn_iff, not_or, Nat.not_le, Bool.not_eq_true] at staying
    rw [stays q f staying.1 staying.2]

theorem UplinkQueue.joinable_eq_some_iff {q : UplinkQueue} {e : Entry} {f : ReportFrame} : q.joinable e = some f ↔
    q.openFrame = some f ∧ f.entries.length < 32 ∧ q.occupancy + e.size ≤ 4096 := by
  unfold UplinkQueue.joinable
  cases isOpen : q.openFrame with
  | none => simp
  | some g =>
    dsimp only
    split
    next fits => exact ⟨fun same => ⟨same, Option.some.inj same ▸ fits⟩, fun joins => joins.1⟩
    next tight =>
      refine iff_of_false nofun ?_
      rintro ⟨⟨⟩, fits⟩
      exact tight fits

theorem UplinkQueue.roomToOpen_iff {q : UplinkQueue} {e : Entry} :
    q.roomToOpen e = true ↔ q.frames.length < 64 ∧ q.occupancy + 6 + e.size ≤ 4096 := by
  rw [UplinkQueue.roomToOpen, Bool.and_eq_true, decide_eq_true_iff, decide_eq_true_iff]
  rfl

section Add
variable {s : State} {e : Entry}

theorem State.addEntry_of_joins {f : ReportFrame} (joins : s.queue.joinable e = some f) :
    s.addEntry e = { s with queue := (s.queue.place (f.add e) e).evaluate } := by
  simp only [State.addEntry, UplinkQueue.add, joins]

variable (apart : s.queue.joinable e = none)
include apart

theorem State.addEntry_of_opens (opens : s.queue.roomToOpen e = true) : s.addEntry e = { s with
    queue := (({ s.queue with closed := s.queue.frames, openFrame := none, droppedSinceOpen := 0 } : UplinkQueue).place
      (s.queue.newFrame s.timer.cycleNumber e) e).evaluate } := by
  simp only [State.addEntry, UplinkQueue.add, apart, if_pos opens]

theorem State.addEntry_of_dropped (full : ¬ s.queue.roomToOpen e = true) : s.addEntry e = ({ s with
    queue := ({ s.queue with
      droppedSinceOpen := bump s.queue.droppedSinceOpen, lost := s.queue.lost.count e } : UplinkQueue).evaluate } :
    State).raise .loss := by
  simp only [State.addEntry, UplinkQueue.add, apart, if_neg full]

end Add

/-- Settles O33: the effects in their order, the sizes and counters kind by kind, and the three cases of an addition. -/
theorem entryJoinsOpensOrIsDropped : Obligations.EntryJoinsOpensOrIsDropped := by
  unfold Obligations.EntryJoinsOpensOrIsDropped
  refine ⟨fun s x rest e f => ⟨rfl, rfl, rfl, rfl⟩, ?streams, fun f => rfl,
    fun q => ⟨rfl, UplinkQueue.frames_of_none, fun f => UplinkQueue.frames_of_some⟩, Entry.urgent_iff, ?kinds,
    Entry.bytes_length, ?addition⟩
  case streams =>
    intro s change streams effects each
    refine s.eachStream_eq change streams effects (fun i => ?_) (fun i unused => ((each i).1 unused).2)
      fun i c stream => ((each i).2 c stream).2
    cases stream : s.streams[i] with
    | none => exact ((each i).1 stream).1
    | some c => exact ((each i).2 c stream).1
  case kinds =>
    exact fun i n seq u c o cyc v d cause a b w up outcome attempts l =>
      ⟨fun long => rfl, rfl, rfl, rfl, rfl, rfl, rfl, rfl, rfl, rfl, rfl, rfl, rfl, rfl, rfl, rfl, rfl⟩
  case addition =>
    rintro s e _ rfl joins joins_iff opens opens_iff placed stays closes
    have place := UplinkQueue.place_unique stays closes
    have apart (alone : ¬ joins) : s.queue.joinable e = none :=
      Option.eq_none_iff_forall_ne_some.2 fun f fits => alone (joins_iff.2 ⟨f, UplinkQueue.joinable_eq_some_iff.1 fits⟩)
    have opens_iff : opens ↔ s.queue.roomToOpen e = true := opens_iff.trans UplinkQueue.roomToOpen_iff.symm
    refine ⟨fun f isOpen joined => ?_, fun alone room => ?_, fun alone full => ?_, fun q =>
      ⟨UplinkQueue.evaluate_of_high, UplinkQueue.evaluate_of_low, UplinkQueue.evaluate_of_between⟩⟩
    · obtain ⟨g, held, fits⟩ := joins_iff.1 joined
      obtain rfl := Option.some.inj (isOpen.symm.trans held)
      rw [State.addEntry_of_joins (UplinkQueue.joinable_eq_some_iff.2 ⟨isOpen, fits⟩), place]
      rfl
    · rw [State.addEntry_of_opens (apart alone) (opens_iff.1 room), place]
      rfl
    · exact State.addEntry_of_dropped (apart alone) (mt opens_iff.2 full)

/-! ## The frames that wait, and those among which the order is open (R143) -/

theorem State.waiting_eq (s : State) :
    s.waiting = (if s.replySlot = none then [] else [.reply]) ++ (if s.status.alertSlot = none then [] else [.alert]) ++
      (if s.queue.closed = [] then [] else [.report]) := by
  unfold State.waiting
  cases s.replySlot <;> cases s.status.alertSlot <;> cases s.queue.closed <;> rfl

/-- What stands before a member of a `takeWhile` has the property too. -/
theorem before_of_mem_takeWhile {α : Type*} {p : α → Bool} {x : α} {first rest : List α}
    (mem : x ∈ (first ++ rest).takeWhile p) (notFirst : x ∉ first) : ∀ y ∈ first, p y = true := by
  by_contra some
  rw [List.takeWhile_append, if_neg] at mem
  · exact notFirst (List.takeWhile_subset p mem)
  · intro all
    exact some fun y inFirst => List.mem_takeWhile_imp
      (by rwa [(List.takeWhile_prefix p).eq_of_length all])

theorem State.contenders_subset {s : State} {src : TxSource} (mem : src ∈ s.contenders) :
    src ∈ s.waiting.takeWhile fun src => src ∈ s.tied := by
  unfold State.contenders at mem
  dsimp only at mem
  split at mem
  · exact mem
  · cases mem

/-- The contenders are the longest beginning of the waiting frames that began to wait together, when they are two or more. -/
theorem State.contenders_eq {s : State} {first rest : List TxSource} (waiting : s.waiting = first ++ rest)
    (tied : ∀ src ∈ first, src ∈ s.tied) (untied : ∀ src ∈ rest.head?, src ∉ s.tied) :
    s.contenders = if 2 ≤ first.length then first else [] := by
  have stop : rest.takeWhile (fun src => src ∈ s.tied) = [] := by
    cases rest with
    | nil => rfl
    | cons src rest => exact List.takeWhile_cons_of_neg (by simpa using untied src rfl)
  have both : s.waiting.takeWhile (fun src => src ∈ s.tied) = first := by
    rw [waiting, List.takeWhile_append_of_pos (by simpa using tied), stop, List.append_nil]
  rw [State.contenders, both]

/-! ## The transmitter's choice (R143, R144) -/

theorem State.contenders_mem_waiting {s : State} {src : TxSource} (mem : src ∈ s.contenders) : src ∈ s.waiting :=
  List.takeWhile_subset _ (State.contenders_subset mem)

theorem State.contenders_tied {s : State} {src : TxSource} (mem : src ∈ s.contenders) : src ∈ s.tied := by
  simpa using List.mem_takeWhile_imp (State.contenders_subset mem)

theorem State.reply_mem_waiting_iff {s : State} : .reply ∈ s.waiting ↔ s.replySlot ≠ none := by
  rw [State.waiting_eq]
  split_ifs <;> simp_all

theorem State.alert_mem_waiting_iff {s : State} : .alert ∈ s.waiting ↔ s.status.alertSlot ≠ none := by
  rw [State.waiting_eq]
  split_ifs <;> simp_all

theorem State.report_mem_waiting_iff {s : State} : .report ∈ s.waiting ↔ s.queue.closed ≠ [] := by
  rw [State.waiting_eq]
  split_ifs <;> simp_all

/-- A contender's place in the arbiter's order is behind tied frames only. -/
theorem State.tied_before_contender {s : State} {src : TxSource} {first rest : List TxSource} (mem : src ∈ s.contenders)
    (waiting : s.waiting = first ++ rest) (notFirst : src ∉ first) : ∀ earlier ∈ first, earlier ∈ s.tied := by
  have tied := before_of_mem_takeWhile (waiting ▸ State.contenders_subset mem) notFirst
  exact fun earlier inFirst => by simpa using tied earlier inFirst

theorem State.tied_of_alert_contends {s : State} (mem : .alert ∈ s.contenders) (reply : s.replySlot ≠ none) :
    .reply ∈ s.tied := by
  refine State.tied_before_contender (first := [.reply]) (rest := (if s.status.alertSlot = none then [] else [.alert]) ++
    (if s.queue.closed = [] then [] else [.report])) mem ?_ (by decide) .reply (by decide)
  rw [State.waiting_eq, if_neg reply, List.append_assoc]

theorem State.tied_of_report_contends {s : State} (mem : .report ∈ s.contenders) {src : TxSource}
    (waits : src ∈ s.waiting) (other : src ≠ .report) : src ∈ s.tied := by
  refine State.tied_before_contender mem (State.waiting_eq s) (by split_ifs <;> simp) src ?_
  rw [State.waiting_eq, List.mem_append] at waits
  refine waits.resolve_right fun report => other ?_
  split_ifs at report
  · cases report
  · exact List.mem_singleton.1 report

theorem State.choose_of_noContender {s : State} (none : s.contenders = []) : s.choose = s.waiting.head? := by
  simp only [State.choose, none]

/-- Among contenders one of them is taken, whichever the free choice names. -/
theorem State.choose_of_contenders {s : State} (some : s.contenders ≠ []) :
    ∃ src ∈ s.contenders, s.choose = .some src := by
  unfold State.choose
  split
  next none => exact absurd none some
  next first rest eq =>
    rw [eq]
    refine ⟨_, ?_, rfl⟩
    have within : Config.firstTaken s.freeCount % (rest.length + 1) < (first :: rest).length := Nat.mod_lt _ (Nat.succ_pos _)
    rw [List.getD_eq_getElem _ _ within]
    exact List.getElem_mem within

theorem exec_transmitBegin_of_choose {s : State} (live : s.live) (idle : s.transmission = none) {src : TxSource}
    (chosen : s.choose = some src) : exec .transmitBegin s =
      .next (s.settle ((s.drawIf (s.contenders != [])).takeFrame src)) := by
  simp only [exec, execTransmitBegin, event_of_live live, idle, Option.isSome_none, Bool.false_eq_true, if_false, chosen]

/-- The states after TRANSMIT_BEGIN takes a source's frame, with the count of free values as given (R143, R144). -/
theorem exec_transmitBegin_takes {s : State} (live : s.live) (idle : s.transmission = none) {src : TxSource}
    (chosen : s.choose = some src) {n : Nat} (count : n = s.freeCount + (s.contenders != []).toNat) :
    (src = .reply → ∀ r, s.replySlot = some r → exec .transmitBegin s = .next (s.settle { s with
      replySlot := none, freeCount := n
      transmission := some { source := .reply, bytes := trunkFrame 0x81 r.body } })) ∧
    (src = .alert → ∀ a, s.status.alertSlot = some a → exec .transmitBegin s = .next (s.settle { s with
      status := { s.status with alertSlot := none }, freeCount := n
      transmission := some { source := .alert, bytes := trunkFrame 0x83 a.body } })) ∧
    (src = .report → ∀ f rest, s.queue.closed = f :: rest → exec .transmitBegin s = .next (s.settle { s with
      queue := ({ s.queue with closed := rest } : UplinkQueue).evaluate, freeCount := n
      transmission := some { source := .report, bytes := trunkFrame 0x82 f.body } })) := by
  have drawn : s.drawIf (s.contenders != []) = { s with freeCount := n } := by
    rw [count]
    cases s.contenders != [] <;> rfl
  rw [exec_transmitBegin_of_choose live idle chosen, drawn]
  refine ⟨?_, ?_, ?_⟩
  · rintro rfl r slot
    simp only [State.takeFrame, slot]
    rfl
  · rintro rfl a slot
    simp only [State.takeFrame, slot]
    rfl
  · rintro rfl f rest closed
    simp only [State.takeFrame, closed]
    rfl

/-! ### What an event notes (log entry 3) -/

section Settle
variable {before after : State}

theorem State.settle_of_transmission (busy : before.transmission ≠ none ∨ after.transmission ≠ none) :
    before.settle after = { after with tied := [] } := by
  rw [State.settle, if_pos]
  simpa [Option.isSome_iff_ne_none] using busy

variable (idle : before.transmission = none) (idle' : after.transmission = none)
include idle idle'

theorem State.settle_of_idle : before.settle after =
    if before.waiting = [] then { after with tied := if 2 ≤ after.waiting.length then after.waiting else [] }
    else after := by
  rw [State.settle, if_neg]
  simp [idle, idle']

end Settle

/-- Settles O34: what an event notes, the frames that contend, the frame taken with and without a contest, and the layouts. -/
theorem transmitterTakesWaitingFrames : Obligations.TransmitterTakesWaitingFrames := by
  unfold Obligations.TransmitterTakesWaitingFrames
  refine ⟨fun before after => ⟨State.settle_of_transmission, fun idle idle' => ⟨fun some => ?_, fun none two => ?_,
      fun none few => ?_⟩⟩,
    fun s => ⟨s.waiting_eq, fun first rest waiting tied untied => ⟨fun two => ?_, fun few => ?_⟩⟩,
    ⟨fun r => rfl, rfl, rfl, rfl, rfl, rfl, rfl, rfl⟩, ?begins, fun s => ⟨?contends, fun live => ?ends,
      fun none => ?_, fun src bytes sends => ?_⟩,
    ?frame, ?bodies, ?entries⟩
  · rw [State.settle_of_idle idle idle', if_neg some]
  · rw [State.settle_of_idle idle idle', if_pos none, if_pos two]
  · rw [State.settle_of_idle idle idle', if_pos none, if_neg (Nat.not_le.2 few)]
  · rw [State.contenders_eq waiting tied untied, if_pos two]
  · rw [State.contenders_eq waiting tied untied, if_neg (Nat.not_le.2 few)]
  case begins =>
    intro s live idle q q_eq takes takes_iff
    have taken {src : TxSource} {n : Nat} (chosen : s.choose = some src)
        (count : n = s.freeCount + (s.contenders != []).toNat) : takes src n := by
      obtain ⟨reply, alert, report⟩ := exec_transmitBegin_takes live idle chosen count
      refine (takes_iff src n).2 ⟨reply, alert, fun isReport f rest closed => ?_⟩
      rw [q_eq f rest closed]
      exact report isReport f rest closed
    have waits := s.waiting_eq
    refine ⟨fun none => ⟨fun reply => ?_, fun noReply alert => ?_, fun noReply noAlert => ?_⟩, fun some => ?_⟩
    · rw [if_neg reply] at waits
      exact taken (by rw [State.choose_of_noContender none, waits]; rfl) (by rw [none]; rfl)
    · rw [if_pos noReply, if_neg alert] at waits
      exact taken (by rw [State.choose_of_noContender none, waits]; rfl) (by rw [none]; rfl)
    · refine (takes_iff _ _).2 ⟨nofun, nofun, fun _ f rest closed => ?_⟩
      rw [if_pos noReply, if_pos noAlert, if_neg (by rw [closed]; nofun)] at waits
      have report := taken (src := .report) (n := s.freeCount) (by rw [State.choose_of_noContender none, waits]; rfl)
        (by rw [none]; rfl)
      exact ((takes_iff _ _).1 report).2.2 rfl f rest closed
    · obtain ⟨src, mem, chosen⟩ := State.choose_of_contenders some
      exact ⟨src, mem, taken chosen (by rw [bne_iff_ne.2 some]; rfl)⟩
  case contends =>
    refine fun src mem => ⟨State.contenders_tied mem, ?_, ?_, ?_⟩
    · rintro rfl
      exact State.reply_mem_waiting_iff.1 (State.contenders_mem_waiting mem)
    · rintro rfl
      exact ⟨State.alert_mem_waiting_iff.1 (State.contenders_mem_waiting mem), State.tied_of_alert_contends mem⟩
    · rintro rfl
      exact ⟨State.report_mem_waiting_iff.1 (State.contenders_mem_waiting mem),
        fun reply => State.tied_of_report_contends mem (State.reply_mem_waiting_iff.2 reply) (by decide),
        fun alert => State.tied_of_report_contends mem (State.alert_mem_waiting_iff.2 alert) (by decide)⟩
  case ends => rw [exec, execTransmitEnd, event_of_live live]
  · rw [State.trunkDrive, none]
  · rw [State.trunkDrive, sends]
    rfl
  case frame =>
    rintro type body _ rfl
    rfl
  case bodies =>
    intro f a
    rw [ReportFrame.body, markByte_four]
    exact ⟨rfl, rfl⟩
  case entries =>
    intro i n seq u c o cyc v a b w attempts
    refine ⟨?_, ?_, ?_, rfl, rfl, fun cause code named => ?_, rfl, rfl, rfl, rfl, rfl, fun outcome code named => ?_⟩
    · cases u <;> cases c <;> rfl
    · cases u <;> cases c <;> rfl
    · cases cyc <;> cases o <;> rfl
    · obtain ⟨rfl, rfl⟩ | ⟨rfl, rfl⟩ | ⟨rfl, rfl⟩ | ⟨rfl, rfl⟩ := named <;> exact ⟨rfl, rfl⟩
    · obtain ⟨rfl, rfl⟩ | ⟨rfl, rfl⟩ | ⟨rfl, rfl⟩ | ⟨rfl, rfl⟩ | ⟨rfl, rfl⟩ | ⟨rfl, rfl⟩ := named <;> rfl

end Sys2Proof.Machine

/-! SUPPORT. The Trunk Receiver byte by byte, a frame begun that is discarded, and the LENGTH that shows its SYNC was no frame
start, with the statement on them (R165, R166). -/

namespace Sys2Proof.Machine

/-! ## One byte (R165) -/

theorem lengthBad_iff {length : Word16} : lengthBad length = true ↔ length = 0 ∨ 513 < length.toNat := by
  rw [lengthBad, Bool.or_eq_true, beq_iff_eq, decide_eq_true_eq, ← BitVec.toNat_inj]
  rfl

theorem lengthBad_eq_false_iff {length : Word16} : lengthBad length = false ↔ 1 ≤ length.toNat ∧ length.toNat ≤ 513 := by
  rw [← Bool.not_eq_true, lengthBad_iff, ← BitVec.toNat_inj]
  simp only [BitVec.ofNat_eq_ofNat, BitVec.toNat_ofNat, Nat.zero_mod]
  omega

theorem huntByte_of_sync {b : Byte} (h : b = 0xA5) : huntByte b = .length [] := if_pos h

theorem huntByte_of_other {b : Byte} (h : b ≠ 0xA5) : huntByte b = .hunt := if_neg h

/-- A first LENGTH byte that is a SYNC begins a frame again, and the second is its first LENGTH byte. -/
theorem rehunt_of_sync {hi : Byte} (h : hi = 0xA5) (lo : Byte) : rehunt hi lo = .length [lo] := by
  simp only [rehunt, huntByte_of_sync h]

theorem rehunt_of_other {hi : Byte} (h : hi ≠ 0xA5) (lo : Byte) : rehunt hi lo = huntByte lo := by
  simp only [rehunt, huntByte_of_other h]

theorem State.withReceiver_self {s : State} {r : ReceiverState} (h : s.receiver = r) : { s with receiver := r } = s := by
  rw [← h]

section Byte
variable {s : State} (b : Byte)

theorem State.receiveByte_hunt (h : s.receiver = .hunt) : s.receiveByte b = { s with receiver := huntByte b } := by
  simp only [State.receiveByte, h]

theorem State.receiveByte_length {got : List Byte} (h : s.receiver = .length got) :
    s.receiveByte b = { s with receiver := lengthByte got b } := by
  simp only [State.receiveByte, h]

theorem State.receiveByte_content {n : Word16} {got : List Byte} (h : s.receiver = .content n got)
    (more : got.length + 1 < n.toNat) : s.receiveByte b = { s with receiver := .content n (got ++ [b]) } := by
  simp [State.receiveByte, h, more]

theorem State.receiveByte_contentLast {n : Word16} {got : List Byte} (h : s.receiver = .content n got)
    (last : got.length + 1 = n.toNat) : s.receiveByte b = { s with receiver := .check n (got ++ [b]) [] } := by
  simp [State.receiveByte, h, last]

theorem State.receiveByte_checkFirst {n : Word16} {content : List Byte} (h : s.receiver = .check n content []) :
    s.receiveByte b = { s with receiver := .check n content [b] } := by
  simp only [State.receiveByte, h]

theorem State.receiveByte_checkGood {n : Word16} {content : List Byte} {c1 : Byte}
    (h : s.receiver = .check n content [c1]) (agrees : word16 c1 b = crc16 (be16 n ++ content)) :
    s.receiveByte b = { s with receiver := .hunt }.handOn content := by
  simp only [State.receiveByte, h]
  exact if_pos (be16_eq_iff.2 agrees)

theorem State.receiveByte_checkBad {n : Word16} {content : List Byte} {c1 : Byte}
    (h : s.receiver = .check n content [c1]) (differs : word16 c1 b ≠ crc16 (be16 n ++ content)) :
    s.receiveByte b = s.badFrame := by
  simp only [State.receiveByte, h]
  exact if_neg fun eq => differs (be16_eq_iff.1 eq)

end Byte

/-! ## The events of the receiver (R165, R166) -/

section Events
variable {s : State} (live : s.live) (bytes : List Byte)
include live

theorem exec_trunkFrameReceived : exec (.trunkFrameReceived bytes) s = .next (s.receiveBytes bytes) :=
  outsideReset_of_live live fun s => s.receiveBytes bytes

theorem exec_trunkGapTimeout : exec (.trunkGapTimeout bytes) s = .next (s.receiveBytes bytes).discardBegun :=
  outsideReset_of_live live fun s => (s.receiveBytes bytes).discardBegun

theorem exec_trunkByteError : exec (.trunkByteError bytes) s = .next (s.receiveBytes bytes).discardBegun :=
  outsideReset_of_live live fun s => (s.receiveBytes bytes).discardBegun

end Events

theorem State.discardBegun_of_hunt {s : State} (h : s.receiver = .hunt) : s.discardBegun = s := by
  simp only [State.discardBegun, h]

theorem State.discardBegun_of_begun {s : State} (h : s.receiver ≠ .hunt) : s.discardBegun = s.badFrame := by
  unfold State.discardBegun
  cases receiver : s.receiver with
  | hunt => exact absurd receiver h
  | length => rfl
  | content => rfl
  | check => rfl

/-- The two bytes of a LENGTH out of range are examined again. -/
theorem State.receiveBytes_lengthBad {s : State} {hi lo : Byte} (h : s.receiver = .length [])
    (bad : lengthBad (word16 hi lo) = true) : s.receiveBytes [hi, lo] = { s with receiver := rehunt hi lo } := by
  show (s.receiveByte hi).receiveByte lo = _
  rw [s.receiveByte_length hi h, State.receiveByte_length (got := [hi]) lo rfl]
  simp only [lengthByte, bad, if_true]

theorem exec_lengthOutOfRange {s : State} {hi lo : Byte} (live : s.live)
    (receiver : s.receiver = .hunt ∨ s.receiver = .length []) (bad : lengthBad (word16 hi lo) = true) :
    exec (.lengthOutOfRange (word16 hi lo)) s = .next { s with receiver := rehunt hi lo } := by
  refine (outsideReset_of_live live _).trans (congrArg Host.Outcome.next ?_)
  rw [if_pos bad]
  obtain hunt | begun := receiver
  · simp only [hunt, lengthArrival, be16_word16]
    show (s.receiveByte Config.sync).receiveBytes [hi, lo] = _
    rw [s.receiveByte_hunt _ hunt, huntByte_of_sync (b := Config.sync) rfl, State.receiveBytes_lengthBad rfl bad]
  · simp only [begun, lengthArrival, be16_word16]
    exact State.receiveBytes_lengthBad begun bad

/-! ## What is stored stays short of what is awaited -/

theorem Change.keeps_receiverOk {s t : State} (h : Change s t) (ok : s.receiver.ok = true) : t.receiver.ok = true := by
  have kept {t : State} (same : t.receiver = s.receiver) : t.receiver.ok = true := same ▸ ok
  cases h with
  | receive r fits => exact fits ok
  | boundary => exact kept (by simp [State.boundary])
  | start => exact kept (by simp [State.start, State.boundary])
  | streamEngine => exact kept s.streamEngineBoundary_receiver
  | assembler => exact kept s.assemblerBoundary_receiver
  | stop =>
    refine kept ?_
    simp only [State.stop]
    split <;> rfl
  | setNode =>
    refine kept ?_
    simp only [State.setNode]
    split <;> simp [State.resetStreams]
  | raise | transmit | beaconSent | measure | failed | replied | released | cancel | disable => exact kept (by simp)
  | _ => exact ok

/-- Settles O51: the receiver's equations byte by byte, and the induction over a step for what it has stored. -/
theorem badFramesAreDiscardedFalseStartsAreNot : Obligations.BadFramesAreDiscardedFalseStartsAreNot := by
  unfold Obligations.BadFramesAreDiscardedFalseStartsAreNot
  refine ⟨?events, ?bytes, fun s t ok h => ?stored, ?falseStart⟩
  case events =>
    rintro s m bad bytes live rfl rfl
    rw [exec_trunkFrameReceived live, exec_trunkGapTimeout live, exec_trunkByteError live]
    exact ⟨rfl, fun begun => ⟨congrArg Host.Outcome.next (State.discardBegun_of_begun begun),
      congrArg Host.Outcome.next (State.discardBegun_of_begun begun)⟩, fun hunt =>
      ⟨congrArg Host.Outcome.next (State.discardBegun_of_hunt hunt),
        congrArg Host.Outcome.next (State.discardBegun_of_hunt hunt)⟩⟩
  case bytes =>
    intro s b put put_eq
    simp only [put_eq]
    refine ⟨fun hunt => ⟨fun sync => ?_, fun other => ?_⟩, s.receiveByte_length b, ?_, fun n got content =>
      ⟨s.receiveByte_content b content, s.receiveByte_contentLast b content⟩, fun n content => s.receiveByte_checkFirst b,
      fun n content c1 check => ⟨s.receiveByte_checkGood b check, s.receiveByte_checkBad b check⟩⟩
    · rw [s.receiveByte_hunt b hunt, huntByte_of_sync sync]
    · rw [s.receiveByte_hunt b hunt, huntByte_of_other other, State.withReceiver_self hunt]
    · rintro hi n held rfl low high
      have good := lengthBad_eq_false_iff.2 ⟨low, high⟩
      simp [s.receiveByte_length b held, lengthByte, good]
  case stored =>
    exact step_keeps (P := fun s => s.receiver.ok = true) (fun _ _ h => h) (fun _ _ ok => ok) (fun _ _ _ _ => rfl)
      (fun _ _ _ ok h => h.keeps_receiverOk ok) ok h
  case falseStart =>
    intro s hi lo live receiver out
    rw [exec_lengthOutOfRange live receiver (lengthBad_iff.2 out)]
    refine ⟨fun hi_ne lo_ne => ?_, fun hi_ne lo_eq => ?_, fun hi_eq => ?_⟩
    · rw [rehunt_of_other hi_ne, huntByte_of_other lo_ne]
    · rw [rehunt_of_other hi_ne, huntByte_of_sync lo_eq]
    · rw [rehunt_of_sync hi_eq]

end Sys2Proof.Machine

/-! SUPPORT. The Command Unit: which frames it drops, which it answers FORMAT, and that the frame of a host command does what
the command does, with the statements on them (R167 to R169, Table 11-5). -/

namespace Sys2Proof.Machine

/-! ## What a good frame does -/

theorem State.take_format {s : State} (h : s.accepts) (opcode : Byte) (ref : Word16) :
    s.take opcode ref formatAnswer = s.settle (s.replied opcode ref .format []) :=
  State.take_of_empty h.2 opcode ref formatAnswer

/-- A good frame is dropped whatever it holds. -/
theorem State.handOn_of_full {s : State} (full : s.replySlot ≠ none) (content : List Byte) :
    s.handOn content = s.settle s.dropCommand := by
  unfold State.handOn
  split
  · split
    · exact State.take_of_full full _ _ _
    · exact State.take_of_full full _ _ _
  · exact State.take_of_full full _ _ _

/-- A frame of another TYPE, or too short for an opcode and a Reference, has neither in its answer. -/
theorem State.handOn_of_noCommand (s : State) {type : Byte} {body : List Byte} (h : type ≠ 0x01 ∨ body.length < 3) :
    s.handOn (type :: body) = s.take 0 0 formatAnswer := by
  obtain other | short := h
  · unfold State.handOn
    split
    next heq =>
      obtain ⟨rfl, -⟩ := List.cons.inj heq
      exact if_neg other
    · rfl
  · cases body with
    | nil => rfl
    | cons _ body =>
      cases body with
      | nil => rfl
      | cons _ body =>
        cases body with
        | nil => rfl
        | cons => simp only [List.length_cons] at short; omega

theorem State.handOn_command (s : State) (opcode r1 r0 : Byte) (args : List Byte) :
    s.handOn (0x01 :: opcode :: r1 :: r0 :: args) =
      s.take opcode (word16 r1 r0) ((commandRule opcode args).getD formatAnswer) := rfl

/-! ## Opcodes and argument lengths that name no command (Table 11-5) -/

theorem fixedLengths_unique : ∀ p ∈ fixedLengths, ∀ q ∈ fixedLengths, p.1 = q.1 → p.2 = q.2 := by decide

theorem fixedLengths_known : ∀ p ∈ fixedLengths, p.1 ∈ [0x01, 0x02, 0x03, 0x04, 0x10, 0x11, 0x12, 0x13, 0x14, 0x18, 0x20,
    0x21, 0x22, 0x30, 0x31, 0x32, 0x33, 0x34, 0x40, 0x41, 0x50, 0x51] := by decide

/-- Neither SCHEDULE LOAD nor FORWARD has a fixed length. -/
theorem fixedLengths_ne : ∀ p ∈ fixedLengths, p.1 ≠ 0x13 ∧ p.1 ≠ 0x50 := by decide

section Unnamed
variable {opcode : Byte} {args : List Byte}

theorem commandRule_eq_none (fixed : (opcode.toNat, args.length) ∉ fixedLengths)
    (load : opcode.toNat = 0x13 → args = []) (forward : opcode.toNat = 0x50 → args.length < 3) :
    commandRule opcode args = none := by
  refine Option.eq_none_iff_forall_ne_some.2 fun rule named => ?_
  obtain known | ⟨isLoad, some⟩ | ⟨isForward, long⟩ := commandRule_some named
  · exact fixed known
  · exact some (load isLoad)
  · have := forward isForward
    omega

theorem commandRule_of_unknown
    (unknown : opcode.toNat ∉ [0x01, 0x02, 0x03, 0x04, 0x10, 0x11, 0x12, 0x13, 0x14, 0x18, 0x20, 0x21, 0x22, 0x30, 0x31,
      0x32, 0x33, 0x34, 0x40, 0x41, 0x50, 0x51]) : commandRule opcode args = none := by
  refine commandRule_eq_none (fun fixed => unknown (fixedLengths_known _ fixed)) (fun load => ?_) fun forward => ?_
  · exact absurd (by rw [load]; decide) unknown
  · exact absurd (by rw [forward]; decide) unknown

theorem commandRule_of_length {size : Nat} (known : (opcode.toNat, size) ∈ fixedLengths) (differs : args.length ≠ size) :
    commandRule opcode args = none := by
  obtain ⟨noLoad, noForward⟩ := fixedLengths_ne _ known
  exact commandRule_eq_none (fun fixed => differs (fixedLengths_unique _ fixed _ known rfl))
    (fun load => absurd load noLoad) fun forward => absurd forward noForward

theorem commandRule_of_shortForward (forward : opcode = 0x50) (short : args.length < 3) :
    commandRule opcode args = none := by
  subst forward
  exact commandRule_eq_none (fun fixed => absurd rfl (fixedLengths_ne _ fixed).2) (fun load => absurd load (by decide))
    fun _ => short

/-- SCHEDULE LOAD's own count is its layout: any other number of bytes is answered FORMAT, by the rule or for want of one. -/
theorem scheduleLoad_of_length (differs : ∀ count ∈ args.head?, args.length ≠ 1 + count.toNat) (s : State) :
    ((commandRule 0x13 args).getD formatAnswer) s = formatAnswer s := by
  cases args with
  | nil => rfl
  | cons count slots =>
    have wrong : slots.length ≠ count.toNat := by
      have := differs count rfl
      simp only [List.length_cons] at this
      omega
    exact if_pos wrong

end Unnamed

/-- The Command Unit's answer depends on the rule only by what it says of the state. -/
theorem State.take_congr {s : State} {rule rule' : State → Answer} (h : rule s = rule' s) (opcode : Byte) (ref : Word16) :
    s.take opcode ref rule = s.take opcode ref rule' := by
  simp only [State.take, h]

/-! ## The frame of each host command (Table 11-5) -/

theorem commandRule_status (a : Word16) : commandRule 0x02 (be16 a) = some (status a) := by
  show some (status (word16 _ _)) = _
  rw [word16_bytes]

theorem commandRule_alertMask (m : Word16) : commandRule 0x03 (be16 m) = some (alertMask m) := by
  show some (alertMask (word16 _ _)) = _
  rw [word16_bytes]

/-- TIMING's arguments are read back. -/
theorem timingArgsOfBytes_bytes (t : TimingArgs) : timingArgsOfBytes (timingArgsBytes t) = some t := by
  simp only [timingArgsBytes, be16, List.cons_append, List.nil_append, timingArgsOfBytes, word16_bytes]

/-- A stream's configuration as given is read back. -/
theorem streamArgsOfBytes_bytes (a : StreamArgs) : streamArgsOfBytes (streamArgsBytes a) = some a := by
  simp only [streamArgsBytes, be32, be16, List.cons_append, List.nil_append, streamArgsOfBytes, word16_bytes, word32_bytes]

theorem commandRule_timing (t : TimingArgs) : commandRule 0x10 (timingArgsBytes t) = some (timing t) :=
  congrArg (Option.map timing) (timingArgsOfBytes_bytes t)

theorem commandRule_streamSet (stream : Byte) (a : StreamArgs) :
    commandRule 0x30 (stream :: streamArgsBytes a) = some (streamSet stream a) :=
  congrArg (Option.map (streamSet stream)) (streamArgsOfBytes_bytes a)

theorem commandRule_queueMarks (high low : Word16) :
    commandRule 0x40 (be16 high ++ be16 low) = some (queueMarks high low) := by
  show some (queueMarks (word16 _ _) (word16 _ _)) = _
  rw [word16_bytes, word16_bytes]

theorem commandRule_forward (node : Byte) (tag : Word16) (payload : List Byte) :
    commandRule 0x50 (node :: be16 tag ++ payload) = some (forward node tag payload) := by
  show some (forward node (word16 _ _) payload) = _
  rw [word16_bytes]

/-- A host command with its opcode, its Reference, its argument bytes, which fit a frame when the command can come from the
line, and the rule that these name. -/
structure Carried (c : Instr) (body : List Byte) (opcode : Byte) (ref : Word16) (args : List Byte)
    (rule : State → Answer) : Prop where
  body_eq : body = opcode :: be16 ref ++ args
  named : commandRule opcode args = some rule
  fits : c.wf = true → args.length ≤ 509
  exec_eq : ∀ s, exec c s = command opcode ref rule s

theorem carried_of_commandBody {c : Instr} {body : List Byte} (h : commandBody c = some body) :
    ∃ opcode ref args rule, Carried c body opcode ref args rule := by
  have short {args : List Byte} (small : args.length ≤ 509) : c.wf = true → args.length ≤ 509 := fun _ => small
  cases c with
  | identify | flush | run | halt | scheduleRead | lineRead | nodeSet | nodeDelete | nodeRead | streamEnable
  | streamDisable | streamDelete | streamRead | queueRead | cancel =>
    cases h
    exact ⟨_, _, _, _, rfl, rfl, short (Nat.le_of_ble_eq_true rfl), fun _ => rfl⟩
  | status ref a => cases h; exact ⟨_, _, _, _, rfl, commandRule_status a, short (Nat.le_of_ble_eq_true rfl), fun _ => rfl⟩
  | alertMask ref m =>
    cases h; exact ⟨_, _, _, _, rfl, commandRule_alertMask m, short (Nat.le_of_ble_eq_true rfl), fun _ => rfl⟩
  | timing ref t => cases h; exact ⟨_, _, _, _, rfl, commandRule_timing t, short (Nat.le_of_ble_eq_true rfl), fun _ => rfl⟩
  | streamSet ref stream a =>
    cases h; exact ⟨_, _, _, _, rfl, commandRule_streamSet stream a, short (Nat.le_of_ble_eq_true rfl), fun _ => rfl⟩
  | queueMarks ref high low =>
    cases h; exact ⟨_, _, _, _, rfl, commandRule_queueMarks high low, short (Nat.le_of_ble_eq_true rfl), fun _ => rfl⟩
  | scheduleLoad ref count slots =>
    cases h
    refine ⟨_, _, _, _, rfl, rfl, fun wf => ?_, fun _ => rfl⟩
    have bound : 1 + slots.length ≤ 509 := of_decide_eq_true wf
    rw [List.length_cons]
    omega
  | forward ref node tag payload =>
    cases h
    refine ⟨_, _, _, _, rfl, commandRule_forward node tag payload, fun wf => ?_, fun _ => rfl⟩
    have bound : 3 + payload.length ≤ 509 := of_decide_eq_true wf
    simp only [List.length_append, List.length_cons, be16_length]
    omega
  | _ => cases h

/-- Settles O50: every good frame comes to the Command Unit, which drops it for a full Reply Slot, and a frame that names no
rule is answered FORMAT. -/
theorem goodFramesAreDroppedOrAnsweredFormat : Obligations.GoodFramesAreDroppedOrAnsweredFormat := by
  unfold Obligations.GoodFramesAreDroppedOrAnsweredFormat
  refine ⟨fun c s live full isHost => ?dropped, fun s type body live full hunt len => ?frame,
    fun s type body accepts hunt len => ?answered⟩
  case dropped =>
    obtain ⟨body, body_eq⟩ := Option.ne_none_iff_exists'.1 isHost
    obtain ⟨opcode, ref, args, rule, carried⟩ := carried_of_commandBody body_eq
    rw [carried.exec_eq, command_of_full live full]
    rfl
  case frame =>
    rw [exec_trunkFrameReceived live, State.receiveBytes_trunkFrame s hunt type body len, State.handOn_of_full full]
    rfl
  case answered =>
    rw [exec_trunkFrameReceived accepts.1, State.receiveBytes_trunkFrame s hunt type body len]
    refine ⟨fun noCommand => ?_, ?_⟩
    · rw [State.handOn_of_noCommand s noCommand, State.take_format accepts]
    · rintro opcode r1 r0 args rfl rfl misfit
      have format : (commandRule opcode args).getD formatAnswer s = formatAnswer s := by
        obtain unknown | ⟨size, differs, known⟩ | ⟨rfl, differs⟩ | ⟨isForward, short⟩ := misfit
        · rw [commandRule_of_unknown unknown, Option.getD_none]
        · rw [commandRule_of_length known differs, Option.getD_none]
        · exact scheduleLoad_of_length differs s
        · rw [commandRule_of_shortForward isForward short, Option.getD_none]
      rw [State.handOn_command, State.take_congr format, State.take_format accepts]

/-- Settles O52: the arguments of each command are read back, so the frame names the command's own rule. -/
theorem commandFramesExecuteTheirCommand : Obligations.CommandFramesExecuteTheirCommand := by
  unfold Obligations.CommandFramesExecuteTheirCommand
  refine ⟨fun c => rfl, ?layout, fun c frame s wf frame_eq hunt => ?effect⟩
  case layout =>
    intro ref a b x y list t g carries carries_iff
    simp only [carries_iff, int32, BitVec.ofInt_toInt]
    exact ⟨rfl, rfl, rfl, rfl, rfl, rfl, rfl, rfl, rfl, rfl, rfl, rfl, rfl, rfl, rfl, rfl, rfl, rfl, rfl, rfl, rfl, rfl⟩
  case effect =>
    obtain ⟨body, body_eq, rfl⟩ := Option.map_eq_some_iff.1 frame_eq
    obtain ⟨opcode, ref, args, rule, carried⟩ := carried_of_commandBody body_eq
    rw [carried.exec_eq, carried.body_eq]
    exact exec_commandFrame s hunt opcode ref args rule carried.named (carried.fits wf)

end Sys2Proof.Machine

/-! SUPPORT. The field line: what a reception makes of one spacing, of a bit and of a byte, and the statement that a
frame the line code spells is read back (R47, R48, R53). -/

namespace Sys2Proof.Machine

/-! ## Bits and bytes -/

theorem byteOfBits_byteBits (x : Byte) : byteOfBits (byteBits x) = x := by
  apply BitVec.eq_of_getLsbD_eq
  intro i h
  have bit := getLsbD_byteOfBits x.getMsbD (j := 7 - i) (by omega)
  rw [show 7 - (7 - i) = i by omega] at bit
  rw [byteBits, bit, BitVec.getMsbD, show 8 - 1 - (7 - i) = i by omega, decide_eq_true (by omega), Bool.true_and]

theorem byteBits_length (x : Byte) : (byteBits x).length = 8 := rfl

/-- A byte begins with a bit, and seven follow. -/
theorem byteBits_cons (x : Byte) : ∃ b rest, byteBits x = b :: rest ∧ rest.length = 7 := ⟨_, _, rfl, rfl⟩

theorem Reception.bit_of_last {rx : Reception} (h : rx.bits.length = 7) (b : Bool) :
    rx.bit b = afterByte (rx.bytes ++ [byteOfBits (rx.bits ++ [b])]) := if_pos h

theorem Reception.bit_of_more {rx : Reception} (h : rx.bits.length ≠ 7) (b : Bool) :
    rx.bit b = .more { atMiddle := true, bits := rx.bits ++ [b], bytes := rx.bytes } := if_neg h

theorem afterByte_of_short {bytes : List Byte} (h : bytes.length < 4) :
    afterByte bytes = .more { atMiddle := true, bits := [], bytes := bytes } := by
  have none : announcedLength bytes = none := by
    unfold announcedLength
    split
    · simp only [List.length_cons] at h
      omega
    · rfl
  simp only [afterByte, none]

section Header
variable {addr ctrl l1 l0 : Byte} {more : List Byte}

theorem afterByte_of_tooLong (h : 600 < (word16 l1 l0).toNat) :
    afterByte (addr :: ctrl :: l1 :: l0 :: more) = .spoiled := if_pos h

variable (h : (word16 l1 l0).toNat ≤ 600)
include h

theorem afterByte_of_complete (all : (addr :: ctrl :: l1 :: l0 :: more).length = (word16 l1 l0).toNat + 6) :
    afterByte (addr :: ctrl :: l1 :: l0 :: more) = .complete (addr :: ctrl :: l1 :: l0 :: more) :=
  (if_neg (Nat.not_lt.2 h)).trans (if_pos all)

theorem afterByte_of_incomplete (part : (addr :: ctrl :: l1 :: l0 :: more).length ≠ (word16 l1 l0).toNat + 6) :
    afterByte (addr :: ctrl :: l1 :: l0 :: more) =
      .more { atMiddle := true, bits := [], bytes := addr :: ctrl :: l1 :: l0 :: more } :=
  (if_neg (Nat.not_lt.2 h)).trans (if_neg part)

end Header

/-! ## One spacing (R48) -/

theorem classify_of_half {threshold period len : Nat} (h : len < threshold) : classify threshold period len = .half :=
  if_pos h

theorem classify_of_full {threshold period len : Nat} (low : threshold ≤ len) (high : len < threshold + period / 2) :
    classify threshold period len = .full :=
  (if_neg (Nat.not_lt.2 low)).trans (if_pos high)

section Spacing
variable {threshold period : Nat} {rx : Reception} {sp : Spacing}

theorem Reception.hear_halfAtBoundary (len : sp.len < threshold) (at_ : rx.atMiddle = false) :
    rx.hear threshold period sp = rx.bit sp.rise := by
  simp only [Reception.hear, classify_of_half len, at_]

theorem Reception.hear_halfAtMiddle (len : sp.len < threshold) (at_ : rx.atMiddle = true) :
    rx.hear threshold period sp = .more { rx with atMiddle := false } := by
  simp only [Reception.hear, classify_of_half len, at_]

theorem Reception.hear_fullAtMiddle (low : threshold ≤ sp.len) (high : sp.len < threshold + period / 2)
    (at_ : rx.atMiddle = true) : rx.hear threshold period sp = rx.bit sp.rise := by
  simp only [Reception.hear, classify_of_full low high, at_]

theorem Reception.hear_fullAtBoundary (low : threshold ≤ sp.len) (high : sp.len < threshold + period / 2)
    (at_ : rx.atMiddle = false) : rx.hear threshold period sp = .spoiled := by
  simp only [Reception.hear, classify_of_full low high, at_]

theorem Reception.hear_violation (high : threshold + period / 2 ≤ sp.len) :
    rx.hear threshold period sp = .spoiled := by
  simp only [Reception.hear, classify_of_violation high]

theorem hearReply_of_silent (rest : List Spacing) (h : 3 * period ≤ sp.len) :
    hearReply threshold period rx (sp :: rest) = { measured := [], result := .spoiled } :=
  if_pos (decide_eq_true h)

variable (rest : List Spacing) (heard : sp.len < 3 * period)
include heard

theorem hearReply_of_more {rx' : Reception} (h : rx.hear threshold period sp = .more rx') :
    hearReply threshold period rx (sp :: rest) =
      { measured := sp.len :: (hearReply threshold period rx' rest).measured
        result := (hearReply threshold period rx' rest).result } := by
  simp only [hearReply, silent, Nat.not_le.2 heard, decide_false, Bool.false_eq_true, if_false, h]

theorem hearReply_of_complete {bytes : List Byte} (h : rx.hear threshold period sp = .complete bytes) :
    hearReply threshold period rx (sp :: rest) = { measured := [sp.len], result := .complete bytes } := by
  simp only [hearReply, silent, Nat.not_le.2 heard, decide_false, Bool.false_eq_true, if_false, h]

theorem hearReply_of_spoiled (h : rx.hear threshold period sp = .spoiled) :
    hearReply threshold period rx (sp :: rest) = { measured := [sp.len], result := .spoiled } := by
  simp only [hearReply, silent, Nat.not_le.2 heard, decide_false, Bool.false_eq_true, if_false, h]

end Spacing

/-! ## Spacings heard to their end -/

/-- A reception that hears all of a series of spacings, measures each, and stands as given after the last. -/
def Hears (threshold period : Nat) (rx : Reception) (sps : List Spacing) (h : Hearing) : Prop :=
  hearReply threshold period rx sps = { measured := sps.map Spacing.len, result := h }

section Hears
variable {threshold period : Nat} {rx rx' : Reception} {sp : Spacing} {sps sps' : List Spacing} {h : Hearing}

theorem Hears.single (heard : sp.len < 3 * period) : Hears threshold period rx [sp] (rx.hear threshold period sp) := by
  unfold Hears
  cases hear : rx.hear threshold period sp with
  | more => exact hearReply_of_more [] heard hear
  | complete => exact hearReply_of_complete [] heard hear
  | spoiled => exact hearReply_of_spoiled [] heard hear

/-- What is heard after a first part that leaves the reception going on. -/
theorem hearReply_append (first : Hears threshold period rx sps (.more rx')) :
    hearReply threshold period rx (sps ++ sps') =
      { measured := sps.map Spacing.len ++ (hearReply threshold period rx' sps').measured
        result := (hearReply threshold period rx' sps').result } := by
  unfold Hears at first
  induction sps generalizing rx with
  | nil =>
    obtain rfl : rx = rx' := by simpa [hearReply] using first
    rfl
  | cons sp sps ih =>
    have heard : sp.len < 3 * period := by
      refine Nat.not_le.1 fun long => ?_
      rw [hearReply_of_silent sps long] at first
      cases congrArg Heard.result first
    cases hear : rx.hear threshold period sp with
    | more mid =>
      rw [hearReply_of_more sps heard hear, List.map_cons, Heard.mk.injEq, List.cons.injEq] at first
      obtain ⟨⟨-, measured⟩, result⟩ := first
      have rest := ih (congr (congrArg Heard.mk measured) result)
      rw [List.cons_append, hearReply_of_more _ heard hear, rest]
      rfl
    | complete =>
      rw [hearReply_of_complete sps heard hear] at first
      cases congrArg Heard.result first
    | spoiled =>
      rw [hearReply_of_spoiled sps heard hear] at first
      cases congrArg Heard.result first

theorem Hears.append (first : Hears threshold period rx sps (.more rx')) (second : Hears threshold period rx' sps' h) :
    Hears threshold period rx (sps ++ sps') h := by
  rw [Hears, hearReply_append first, second, List.map_append]

end Hears

/-! ## The line code (R47) -/

theorem bitSpacings_same (period : Nat) (b : Bool) (bits : List Bool) : bitSpacings period b (b :: bits) =
    { len := period / 2, rise := !b } :: { len := period / 2, rise := b } :: bitSpacings period b bits := by
  simp [bitSpacings]

theorem bitSpacings_change (period : Nat) (b : Bool) (bits : List Bool) :
    bitSpacings period (!b) (b :: bits) = { len := period, rise := b } :: bitSpacings period b bits := by
  simp [bitSpacings]

theorem bitSpacings_cons (period : Nat) (prev b : Bool) (bits : List Bool) :
    bitSpacings period prev (b :: bits) = bitSpacings period prev [b] ++ bitSpacings period b bits := by
  simp [bitSpacings]

/-- The transitions of bits that follow others go on from the last of these. -/
theorem bitSpacings_append (period : Nat) (prev : Bool) (bits more : List Bool) : ∃ last,
    bitSpacings period prev (bits ++ more) = bitSpacings period prev bits ++ bitSpacings period last more := by
  induction bits generalizing prev with
  | nil => exact ⟨prev, rfl⟩
  | cons b bits ih =>
    obtain ⟨last, rest⟩ := ih b
    exact ⟨last, by rw [List.cons_append, bitSpacings_cons, rest, bitSpacings_cons _ _ _ bits, List.append_assoc]⟩

theorem frameSpacings_of_bits {bytes : List Byte} {b : Bool} {bits : List Bool}
    (h : bytes.flatMap byteBits = b :: bits) (period : Nat) :
    frameSpacings period bytes = { len := period / 2, rise := b } :: bitSpacings period b bits := by
  simp only [frameSpacings, h]

/-! ## A frame read back -/

section Frame
variable {period : Nat} (low : 8 ≤ period)
include low

theorem hears_halfAtMiddle {rx : Reception} (at_ : rx.atMiddle = true) (r : Bool) :
    Hears (3 * period / 4) period rx [{ len := period / 2, rise := r }] (.more { rx with atMiddle := false }) := by
  have half : period / 2 < 3 * period / 4 := by omega
  have heard : period / 2 < 3 * period := by omega
  rw [← Reception.hear_halfAtMiddle (sp := { len := period / 2, rise := r }) (period := period) half at_]
  exact Hears.single heard

theorem hears_halfAtBoundary {rx : Reception} (at_ : rx.atMiddle = false) (r : Bool) :
    Hears (3 * period / 4) period rx [{ len := period / 2, rise := r }] (rx.bit r) := by
  have half : period / 2 < 3 * period / 4 := by omega
  have heard : period / 2 < 3 * period := by omega
  have hear := Reception.hear_halfAtBoundary (sp := { len := period / 2, rise := r }) (period := period) half at_
  exact hear ▸ Hears.single heard

theorem hears_full {rx : Reception} (at_ : rx.atMiddle = true) (r : Bool) :
    Hears (3 * period / 4) period rx [{ len := period, rise := r }] (rx.bit r) := by
  have above : 3 * period / 4 ≤ period := by omega
  have below : period < 3 * period / 4 + period / 2 := by omega
  have heard : period < 3 * period := by omega
  have hear := Reception.hear_fullAtMiddle (sp := { len := period, rise := r }) (period := period) above below at_
  exact hear ▸ Hears.single heard

/-- From a bit's middle the transitions of the next bit decode it. -/
theorem hears_bit {rx : Reception} (at_ : rx.atMiddle = true) (prev b : Bool) :
    Hears (3 * period / 4) period rx (bitSpacings period prev [b]) (rx.bit b) := by
  by_cases same : prev = b
  · subst same
    rw [bitSpacings_same]
    exact (hears_halfAtMiddle low at_ _).append (hears_halfAtBoundary low rfl prev)
  · obtain rfl : prev = !b := Bool.eq_not.2 same
    rw [bitSpacings_change]
    exact hears_full low at_ b

/-- Transitions that decode a bit, and those of the bits left of its byte, complete the byte. -/
theorem hears_byte {rx : Reception} {first : List Spacing} {b : Bool} {bits : List Bool}
    (begun : Hears (3 * period / 4) period rx first (rx.bit b)) (eight : rx.bits.length + 1 + bits.length = 8) :
    Hears (3 * period / 4) period rx (first ++ bitSpacings period b bits)
      (afterByte (rx.bytes ++ [byteOfBits (rx.bits ++ b :: bits)])) := by
  induction bits generalizing rx first b with
  | nil =>
    rw [Reception.bit_of_last (by simpa using eight)] at begun
    simpa [bitSpacings] using begun
  | cons c bits ih =>
    rw [List.length_cons] at eight
    rw [Reception.bit_of_more (by omega)] at begun
    have rest := ih (rx := { atMiddle := true, bits := rx.bits ++ [b], bytes := rx.bytes })
      (hears_bit low rfl b c) (by simp only [List.length_append, List.length_singleton]; omega)
    rw [← bitSpacings_cons, List.append_assoc, List.singleton_append] at rest
    exact begun.append rest

/-- Bytes after which the reception goes on, and a last one that completes the frame. -/
theorem hears_bytes {first : List Spacing} {done rest : List Byte} {at_ b : Bool} {x : Byte} {bits : List Bool}
    {frame : List Byte} (whole : done ++ x :: rest = frame) (bits_eq : byteBits x = b :: bits)
    (goesOn : ∀ part, part <+: frame → part ≠ frame →
      afterByte part = .more { atMiddle := true, bits := [], bytes := part })
    (ends : afterByte frame = .complete frame)
    (begun : Hears (3 * period / 4) period { atMiddle := at_, bits := [], bytes := done } first
      (({ atMiddle := at_, bits := [], bytes := done } : Reception).bit b)) :
    Hears (3 * period / 4) period { atMiddle := at_, bits := [], bytes := done }
      (first ++ bitSpacings period b (bits ++ rest.flatMap byteBits)) (.complete frame) := by
  induction rest generalizing first done at_ b x bits with
  | nil =>
    have byte := hears_byte low begun (bits := bits) (by
      have := byteBits_length x
      rw [bits_eq, List.length_cons] at this
      simp only [List.length_nil]
      omega)
    simp only [List.nil_append, ← bits_eq, byteOfBits_byteBits, whole, ends] at byte
    simpa using byte
  | cons y rest ih =>
    have byte := hears_byte low begun (bits := bits) (by
      have := byteBits_length x
      rw [bits_eq, List.length_cons] at this
      simp only [List.length_nil]
      omega)
    have part : afterByte (done ++ [x]) = .more { atMiddle := true, bits := [], bytes := done ++ [x] } :=
      goesOn _ ⟨y :: rest, by rw [← whole, List.append_assoc, List.singleton_append]⟩ fun eq => by
        have := congrArg List.length (eq.trans whole.symm)
        simp at this
    simp only [List.nil_append, ← bits_eq, byteOfBits_byteBits, part] at byte
    obtain ⟨c, more, y_bits, -⟩ := byteBits_cons y
    obtain ⟨last, split⟩ := bitSpacings_append period b bits ((y :: rest).flatMap byteBits)
    have next := ih (first := bitSpacings period last [c]) (at_ := true) (done := done ++ [x])
      (by rw [List.append_assoc, List.singleton_append, whole]) y_bits (hears_bit low rfl last c)
    rw [split, List.flatMap_cons, y_bits, List.cons_append, bitSpacings_cons, ← List.append_assoc]
    exact byte.append next

/-- A frame of bytes is read back when the reception goes on up to its last byte. -/
theorem hears_frame {frame : List Byte} (some : frame ≠ [])
    (goesOn : ∀ part, part <+: frame → part ≠ frame →
      afterByte part = .more { atMiddle := true, bits := [], bytes := part })
    (ends : afterByte frame = .complete frame) :
    Hears (3 * period / 4) period { atMiddle := false, bits := [], bytes := [] } (frameSpacings period frame)
      (.complete frame) := by
  obtain ⟨x, rest, rfl⟩ := List.exists_cons_of_ne_nil some
  obtain ⟨b, bits, x_bits, -⟩ := byteBits_cons x
  rw [frameSpacings_of_bits (b := b) (bits := bits ++ rest.flatMap byteBits)
    (by rw [List.flatMap_cons, x_bits, List.cons_append])]
  exact hears_bytes low (first := [{ len := period / 2, rise := b }]) (done := []) rfl x_bits goesOn ends
    (hears_halfAtBoundary low rfl b)

end Frame

/-- What has come of a field frame before its end leaves the reception going on. -/
theorem afterByte_of_part {addr ctrl l1 l0 : Byte} {more part : List Byte} (h : (word16 l1 l0).toNat ≤ 600)
    (all : (addr :: ctrl :: l1 :: l0 :: more).length = (word16 l1 l0).toNat + 6)
    (isPart : part <+: addr :: ctrl :: l1 :: l0 :: more) (ne : part ≠ addr :: ctrl :: l1 :: l0 :: more) :
    afterByte part = .more { atMiddle := true, bits := [], bytes := part } := by
  have short : part.length < (addr :: ctrl :: l1 :: l0 :: more).length :=
    Nat.lt_of_le_of_ne isPart.length_le fun eq => ne (isPart.eq_of_length eq)
  by_cases header : part.length < 4
  · exact afterByte_of_short header
  · obtain ⟨tail, rfl⟩ : ∃ tail, part = addr :: ctrl :: l1 :: l0 :: tail := by
      have start : [addr, ctrl, l1, l0] <+: part :=
        List.prefix_of_prefix_length_le ⟨more, rfl⟩ isPart (by simpa using header)
      obtain ⟨tail, eq⟩ := start
      exact ⟨tail, eq.symm⟩
    exact afterByte_of_incomplete h (by omega)

/-- Settles O53: a reception's equations spacing by spacing, and the induction over the bits and the bytes of a frame. -/
theorem fieldFrameIsReadBack : Obligations.FieldFrameIsReadBack := by
  unfold Obligations.FieldFrameIsReadBack
  refine ⟨?readBack, ⟨fun s => ?drive, fun period bytes b bits spelled => ?spelling, fun period b bits =>
    ⟨rfl, bitSpacings_same period b bits, bitSpacings_change period b bits⟩⟩, fun threshold period rx sp rest =>
    ⟨rfl, fun long => hearReply_of_silent rest long, fun heard makes more complete spoiled => ?spacing⟩,
    fun rx b => ⟨fun more => Reception.bit_of_more (by omega) b, ?byte⟩⟩
  case readBack =>
    rintro period addr ctrl c1 c0 payload bytes low - - len rfl
    obtain ⟨l1, l0, spelled, value⟩ := be16_eq (BitVec.ofNat 16 payload.length)
    have length : (word16 l1 l0).toNat = payload.length := by
      rw [word16_toNat, ← value, BitVec.toNat_ofNat]
      omega
    simp only [nat16, spelled, List.cons_append, List.nil_append]
    have within : (word16 l1 l0).toNat ≤ 600 := by omega
    have all : (addr :: ctrl :: l1 :: l0 :: (payload ++ [c1, c0])).length = (word16 l1 l0).toNat + 6 := by
      simp only [List.length_cons, List.length_append, List.length_nil, length]
    exact hears_frame low (List.cons_ne_nil _ _) (fun part => afterByte_of_part within all)
      (afterByte_of_complete within all)
  case drive =>
    refine ⟨?_, fun other => ?_⟩
    · rintro frame sending period rfl
      simp only [State.fieldDrive, sending]
      rfl
    · unfold State.fieldDrive
      split
      next frame sending => exact absurd sending (other frame)
      all_goals rfl
  case spelling => exact frameSpacings_of_bits (by rw [byteBits_eq]; exact spelled) period
  case spacing =>
    have made : makes (rx.hear threshold period sp) := by
      cases hear : rx.hear threshold period sp with
      | more rx' => exact (more rx').2 (hearReply_of_more rest heard hear)
      | complete bytes => exact (complete bytes).2 (hearReply_of_complete rest heard hear)
      | spoiled => exact spoiled.2 (hearReply_of_spoiled rest heard hear)
    exact ⟨fun half at_ => Reception.hear_halfAtBoundary half at_ ▸ made,
      fun half at_ => Reception.hear_halfAtMiddle half at_ ▸ made,
      fun low high at_ => Reception.hear_fullAtMiddle low high at_ ▸ made,
      fun low high at_ => Reception.hear_fullAtBoundary low high at_ ▸ made,
      fun _ high => Reception.hear_violation high ▸ made⟩
  case byte =>
    rintro seven bytes rfl next rfl
    have done := Reception.bit_of_last seven b
    refine ⟨fun short => done.trans (afterByte_of_short short), fun addr ctrl l1 l0 more eq => ?_⟩
    change rx.bytes ++ [byteOfBits (rx.bits ++ [b])] = _ at eq
    change (_ → _) ∧ (_ → (rx.bytes ++ [byteOfBits (rx.bits ++ [b])]).length = _ → _ = Hearing.complete
      (rx.bytes ++ [byteOfBits (rx.bits ++ [b])])) ∧ (_ → (rx.bytes ++ [byteOfBits (rx.bits ++ [b])]).length ≠ _ →
      _ = Hearing.more { atMiddle := true, bits := [], bytes := rx.bytes ++ [byteOfBits (rx.bits ++ [b])] })
    rw [done, eq]
    exact ⟨afterByte_of_tooLong, afterByte_of_complete, afterByte_of_incomplete⟩

end Sys2Proof.Machine

/-! SUPPORT. STREAM READ: a configuration as it is read is one that STREAM SET takes again, the rule's answer case by case,
and the statement (R74, section 11.2). -/

namespace Sys2Proof.Machine

/-! ## The bytes of a configuration's parts -/

theorem mark_eq_one {b : Byte} (choice : b.toNat ≤ 1) : mark (b == 1) = b := by
  obtain rfl | rfl := (Byte.le_one_iff b).1 choice
  · rfl
  · rfl

theorem Kind.ofByte_code {b : Byte} (choice : b.toNat ≤ 1) : (Kind.ofByte b).code = b := by
  obtain rfl | rfl := (Byte.le_one_iff b).1 choice
  · rfl
  · rfl

theorem SampleOutput.ofArgs_bytes {selector : Byte} (choice : selector.toNat ≤ 2) (shift : Byte) :
    (SampleOutput.ofArgs selector shift).bytes = [selector, if selector = 1 then shift else 0] := by
  obtain rfl | rfl | rfl := (Byte.le_two_iff selector).1 choice
  · rfl
  · exact congrArg (fun b => [1, b]) (nat8_toNat shift)
  · rfl

theorem IntegratorMode.ofArgs_bytes {selector : Byte} (choice : selector.toNat ≤ 2) {n align : Byte}
    (yes : selector = 1 → align.toNat ≤ 1) : (IntegratorMode.ofArgs selector n align).bytes =
      [selector, if selector = 1 then n else 0, if selector = 1 then align else 0] := by
  obtain rfl | rfl | rfl := (Byte.le_two_iff selector).1 choice
  · rfl
  · show [1, nat8 n.toNat, mark (align == 1)] = [1, n, align]
    rw [nat8_toNat, mark_eq_one (yes rfl)]
  · rfl

/-- A comparator that is on is read as it was given. -/
theorem ComparatorConfig.ofArgs_bytes (a : StreamArgs) : comparatorBytes (some (.ofArgs a)) =
    [1, a.kc, a.rc] ++ be32 a.high ++ be32 a.low ++ be16 a.hysteresis ++ [a.tripCount] := by
  simp only [comparatorBytes, ComparatorConfig.ofArgs, int32, BitVec.ofInt_toInt, nat8_toNat, nat16_toNat]

/-! ## A configuration read is taken again -/

/-- Arguments of STREAM SET with zeros for the fields of a part switched off or of a mode not selected. -/
def heldArgs (a : StreamArgs) (node : Fin 32) (tag : Fin 8) : StreamArgs :=
  { node := nat8 node, tag := nat8 tag, kind := a.kind, k := a.k, r := a.r, output := a.output
    shift := if a.output = 1 then a.shift else 0, comparator := a.comparator
    kc := if a.comparator = 1 then a.kc else 0, rc := if a.comparator = 1 then a.rc else 0
    high := if a.comparator = 1 then a.high else 0, low := if a.comparator = 1 then a.low else 0
    hysteresis := if a.comparator = 1 then a.hysteresis else 0
    tripCount := if a.comparator = 1 then a.tripCount else 0, integrator := a.integrator
    n := if a.integrator = 1 then a.n else 0, align := if a.integrator = 1 then a.align else 0
    staleLimit := a.staleLimit, intervalInSummary := a.intervalInSummary }

section Held
variable {a : StreamArgs} {node : Fin 32} {tag : Fin 8}

theorem heldArgs_comparator (on : a.comparator = 1) :
    ComparatorConfig.ofArgs (heldArgs a node tag) = ComparatorConfig.ofArgs a := by
  simp only [ComparatorConfig.ofArgs, heldArgs, if_pos on]

/-- The comparator's part of the arguments as held is the comparator's part of the configuration. -/
theorem heldArgs_comparatorBytes (choice : a.comparator.toNat ≤ 1) :
    comparatorBytes (if a.comparator = 1 then some (.ofArgs a) else none) =
      [a.comparator, (heldArgs a node tag).kc, (heldArgs a node tag).rc] ++ be32 (heldArgs a node tag).high ++
        be32 (heldArgs a node tag).low ++ be16 (heldArgs a node tag).hysteresis ++ [(heldArgs a node tag).tripCount] := by
  obtain off | on := (Byte.le_one_iff _).1 choice
  · have notOn : a.comparator ≠ 1 := by rw [off]; decide
    simp only [heldArgs, if_neg notOn]
    rw [off]
    decide
  · simp only [heldArgs, if_pos on]
    rw [ComparatorConfig.ofArgs_bytes, on]

theorem StreamConfig.ofArgs_bytes (ok : StreamArgsOk a) :
    (StreamConfig.ofArgs a node tag).bytes = streamArgsBytes (heldArgs a node tag) := by
  have output : (StreamConfig.ofArgs a node tag).output.bytes = [a.output, (heldArgs a node tag).shift] :=
    SampleOutput.ofArgs_bytes ok.output.1 a.shift
  have comparator := heldArgs_comparatorBytes (node := node) (tag := tag) ok.comparator.1
  have integrator : (StreamConfig.ofArgs a node tag).integrator.bytes =
      [a.integrator, (heldArgs a node tag).n, (heldArgs a node tag).align] :=
    IntegratorMode.ofArgs_bytes ok.integrator.1 fun on => (ok.integrator.2 on).2.2
  rw [StreamConfig.bytes, output, integrator]
  simp only [StreamConfig.ofArgs, comparator, Kind.ofByte_code ok.filter.1, mark_eq_one ok.interval, nat8_toNat, nat16_toNat,
    streamArgsBytes, List.append_assoc, List.cons_append, List.nil_append]
  rfl

theorem StreamArgsOk.held (ok : StreamArgsOk a) : StreamArgsOk (heldArgs a node tag) where
  filter := ok.filter
  output := ⟨ok.output.1, fun on => by
    have shift : (heldArgs a node tag).shift = a.shift := if_pos on
    rw [shift]
    exact ok.output.2 on⟩
  comparator := ⟨ok.comparator.1, fun on => heldArgs_comparator (a := a) on ▸ ok.comparator.2 on⟩
  integrator := ⟨ok.integrator.1, fun on => by
    have n : (heldArgs a node tag).n = a.n := if_pos on
    have align : (heldArgs a node tag).align = a.align := if_pos on
    rw [n, align]
    exact ok.integrator.2 on⟩
  interval := ok.interval

/-- The fields of a part that is off do not matter. -/
theorem StreamConfig.ofArgs_held : StreamConfig.ofArgs (heldArgs a node tag) node tag = .ofArgs a node tag := by
  have output : SampleOutput.ofArgs a.output (heldArgs a node tag).shift = .ofArgs a.output a.shift := by
    simp only [SampleOutput.ofArgs, heldArgs]
    split
    · rfl
    · split <;> rfl
  have comparator : (if a.comparator = 1 then some (ComparatorConfig.ofArgs (heldArgs a node tag)) else none) =
      if a.comparator = 1 then some (.ofArgs a) else none := by
    split
    next on => rw [heldArgs_comparator on]
    next => rfl
  have integrator : IntegratorMode.ofArgs a.integrator (heldArgs a node tag).n (heldArgs a node tag).align =
      .ofArgs a.integrator a.n a.align := by
    simp only [IntegratorMode.ofArgs, heldArgs]
    split
    · rfl
    · split <;> rfl
  show ({ output := .ofArgs a.output (heldArgs a node tag).shift
          comparator := if a.comparator = 1 then some (.ofArgs (heldArgs a node tag)) else none
          integrator := .ofArgs a.integrator (heldArgs a node tag).n (heldArgs a node tag).align, .. } : StreamConfig) = _
  rw [output, comparator, integrator]
  rfl

/-- What STREAM READ answers of an accepted configuration, STREAM SET takes again as the same configuration. -/
theorem parseStream_of_bytes {c : StreamConfig} (parsed : parseStream a node tag = some c) :
    ∃ b, streamArgsOfBytes c.bytes = some b ∧ b.node = nat8 node ∧ b.tag = nat8 tag ∧ parseStream b node tag = some c := by
  obtain ⟨ok, rfl⟩ := parseStream_eq_some_iff.1 parsed
  refine ⟨heldArgs a node tag, ?_, rfl, rfl, parseStream_eq_some_iff.2 ⟨ok.held, StreamConfig.ofArgs_held.symm⟩⟩
  rw [StreamConfig.ofArgs_bytes ok, streamArgsOfBytes_bytes]

end Held

/-! ## The lengths of the two parts (section 11.2) -/

theorem SampleOutput.bytes_length (output : SampleOutput) : output.bytes.length = 2 := by
  cases output <;> rfl

theorem comparatorBytes_length (comparator : Option ComparatorConfig) : (comparatorBytes comparator).length = 14 := by
  cases comparator <;> rfl

theorem IntegratorMode.bytes_length (mode : IntegratorMode) : mode.bytes.length = 3 := by
  cases mode <;> rfl

theorem StreamConfig.bytes_length (c : StreamConfig) : c.bytes.length = 27 := by
  simp only [StreamConfig.bytes, List.length_append, SampleOutput.bytes_length, comparatorBytes_length,
    IntegratorMode.bytes_length]
  rfl

theorem StreamRun.bytes_length (r : StreamRun) : r.bytes.length = 28 := rfl

/-! ## The rule (R74) -/

theorem streamRead_of_above {number : Byte} (above : 63 < number.toNat) (s : State) :
    streamRead number s = refuse s .range := by
  rw [streamRead, streamIndex_eq_none above]

theorem streamRead_of_unused {s : State} {i : Fin 64} (unused : s.streams[i] = none) :
    streamRead (nat8 i) s = refuse s .noent := by
  simp only [streamRead, streamIndex_nat8, unused]

theorem streamRead_of_used {s : State} {i : Fin 64} {c : StreamCtx} (stream : s.streams[i] = some c) :
    streamRead (nat8 i) s =
      { state := s.setStream i (some c.afterRead), status := .ok
        results := c.state.code :: c.config.bytes ++ c.run.bytes } := by
  simp only [streamRead, streamIndex_nat8, stream]

/-- Settles O48: the rule's answer case by case, and a configuration read is taken again. -/
theorem streamReadAnswersContext : Obligations.StreamReadAnswersContext := by
  unfold Obligations.StreamReadAnswersContext
  refine ⟨⟨rfl, rfl, rfl, rfl, rfl, rfl, rfl, rfl, rfl, rfl, rfl⟩, fun ref number s accepts =>
    ⟨fun above => command_of_refuse accepts 0x34 ref (streamRead_of_above above s), ?_⟩⟩
  rintro i rfl
  refine ⟨fun unused => command_of_refuse accepts 0x34 ref (streamRead_of_unused unused), fun c stream => ?_⟩
  refine ⟨c.config.bytes, c.run.bytes, c.config.output.bytes, comparatorBytes c.config.comparator,
    c.config.integrator.bytes, c.config.bytes_length, c.run.bytes_length, fun off => ?_, fun n short => ?_, fun long => ?_,
    fun off => ?_, fun m on => ?_, fun off => ?_, fun n align count => ?_, fun cycle => ?_, rfl, ?_,
    fun a node tag parsed => parseStream_of_bytes parsed,
    command_of_answer accepts 0x34 ref (streamRead_of_used stream)⟩
  · rw [off]; rfl
  · rw [short]; rfl
  · rw [long]; rfl
  · rw [off]; decide
  · rw [on]; rfl
  · rw [off]; rfl
  · rw [count]; rfl
  · rw [cycle]; rfl
  · rw [StreamRun.bytes, markByte_two, markByte_four]

end Sys2Proof.Machine
